-- ==== Sys2Proof/Word.lean ====
section
/-! DEFINITION. The word types of the CORE: a byte, and the lists of bytes that commands and frames are
(00_scope.md R8, R9). Nothing else is a machine word; the registers have widths of their own. -/

namespace Sys2Proof

/-- A byte is 8 bits (R8). -/
abbrev Byte := BitVec 8

end Sys2Proof
end

