-- ==== Sys2Proof/Syntax.lean ====
section
/-! DEFINITION. The 42 commands of the CORE, one constructor for each row of the opcode table
(30_encoding.md R105). A register number stays the byte the command carries: whether it names a register
is a check of the command itself (R107, R250 to R252), with a fault of its own. A byte-string operand is
the list of its bytes; its length field is the list's length (R102 formats `S` and `SS`). -/

namespace Sys2Proof

/-- One command (R105). -/
inductive Instr where
  /-- `RD` (R250): read a register into `RESULT`. -/
  | rd (reg : Byte)
  /-- `WR` (R251): write a register. -/
  | wr (reg : Byte) (val : BitVec 48)
  /-- `IPVALID` (R252): is an address register not 0.0.0.0. -/
  | ipvalid (reg : Byte)
  /-- `CTX.LOAD` (R253): fill the connection context. -/
  | ctxLoad
  /-- `RX.LOAD` (R254): deliver a received frame into `PB`. -/
  | rxLoad (data : List Byte)
  /-- `RX.OVF` (R255): poll the overflow indicator. -/
  | rxOvf
  /-- `PB.RD` (R256): read a byte of `PB`. -/
  | pbRd (off : BitVec 16)
  /-- `PB.WR` (R257): write a byte of `PB`. -/
  | pbWr (off : BitVec 16) (byte : Byte)
  /-- `PSB.LOAD` (R258): supply a payload. -/
  | psbLoad (data : List Byte)
  /-- `PSB.RD` (R259): read a byte of `PSB`. -/
  | psbRd (off : BitVec 16)
  /-- `ACC` (R132): accumulate bytes of `PB` into `SUM`. -/
  | acc (off cnt : BitVec 16)
  /-- `FOLD` (R133): fold `SUM` into `RESULT`. -/
  | fold
  /-- `CK.IP` (R135): inject the IPv4 header checksum. -/
  | ckIp
  /-- `CK.ICMP` (R136): inject the ICMP checksum. -/
  | ckIcmp
  /-- `CK.UDP` (R137): inject the UDP checksum. -/
  | ckUdp
  /-- `CK.TCP` (R138): inject the TCP checksum. -/
  | ckTcp
  /-- `IsIp` (R152). -/
  | isIp
  /-- `IsIpUnicast` (R153). -/
  | isIpUnicast
  /-- `IsArpRequest` (R154). -/
  | isArpRequest
  /-- `IsArpReply` (R155). -/
  | isArpReply
  /-- `IsPingRequest` (R156). -/
  | isPingRequest
  /-- `IsUdp` (R157). -/
  | isUdp
  /-- `IsTcp` (R158). -/
  | isTcp
  /-- `IsTcpAck` (R159). -/
  | isTcpAck
  /-- `IsTcpFinAck` (R160). -/
  | isTcpFinAck
  /-- `IsTcpResetAck` (R161). -/
  | isTcpResetAck
  /-- `IsMqttConnectAck` (R162). -/
  | isMqttConnectAck
  /-- `IsMqttSubAck` (R163). -/
  | isMqttSubAck
  /-- `IsMqttUnSubAck` (R164). -/
  | isMqttUnSubAck
  /-- `IsMqttPublish` (R165). -/
  | isMqttPublish
  /-- `BuildArpReply` (R182). -/
  | buildArpReply
  /-- `BuildArpRequest` (R183). -/
  | buildArpRequest (ip : BitVec 32)
  /-- `BuildIcmpEchoReply` (R184). -/
  | buildIcmpEchoReply
  /-- `BuildUdpReply` (R185): payload in `PSB`. -/
  | buildUdpReply
  /-- `BuildTcpSegment` (R186): context in `CTX_*`, payload in `PSB`. -/
  | buildTcpSegment (flags : BitVec 16)
  /-- `MQ.CONNECT` (R211). -/
  | mqConnect
  /-- `MQ.SUBSCRIBE` (R212). -/
  | mqSubscribe (topic : List Byte)
  /-- `MQ.UNSUBSCRIBE` (R213). -/
  | mqUnsubscribe (topic : List Byte)
  /-- `MQ.PUBLISH` (R214). -/
  | mqPublish (topic data : List Byte)
  /-- `MQ.DISCONNECT` (R215). -/
  | mqDisconnect
  /-- `FSM.CONNECT` (R231): the user CONNECT trigger. -/
  | fsmConnect
  /-- `FSM.STEP` (R232): one row of the transition table. -/
  | fsmStep
deriving DecidableEq, Repr

end Sys2Proof
end

