-- ==== Sys2Proof/WellFormed.lean ====
section
/-! DEFINITION. Which commands have an encoding: the length of every byte-string operand must fit its 16-bit
length field (30_encoding.md R102, formats `S` and `SS`). Everything else an operand can be wrong in (a
reserved register number, a length above a buffer's capacity) has an encoding and is the command's own
fault (R107). -/

namespace Sys2Proof

/-- A byte string whose length fits a 16-bit length field (R102). -/
def fitsLength (data : List Byte) : Bool := decide (data.length < 65536)

/-- The command has an encoding (R102). -/
def Instr.wf : Instr → Bool
  | .rd _ => true
  | .wr _ _ => true
  | .ipvalid _ => true
  | .ctxLoad => true
  | .rxLoad data => fitsLength data
  | .rxOvf => true
  | .pbRd _ => true
  | .pbWr _ _ => true
  | .psbLoad data => fitsLength data
  | .psbRd _ => true
  | .acc _ _ => true
  | .fold => true
  | .ckIp => true
  | .ckIcmp => true
  | .ckUdp => true
  | .ckTcp => true
  | .isIp => true
  | .isIpUnicast => true
  | .isArpRequest => true
  | .isArpReply => true
  | .isPingRequest => true
  | .isUdp => true
  | .isTcp => true
  | .isTcpAck => true
  | .isTcpFinAck => true
  | .isTcpResetAck => true
  | .isMqttConnectAck => true
  | .isMqttSubAck => true
  | .isMqttUnSubAck => true
  | .isMqttPublish => true
  | .buildArpReply => true
  | .buildArpRequest _ => true
  | .buildIcmpEchoReply => true
  | .buildUdpReply => true
  | .buildTcpSegment _ => true
  | .mqConnect => true
  | .mqSubscribe topic => fitsLength topic
  | .mqUnsubscribe topic => fitsLength topic
  | .mqPublish topic data => fitsLength topic && fitsLength data
  | .mqDisconnect => true
  | .fsmConnect => true
  | .fsmStep => true

end Sys2Proof
end

