-- ==== Sys2Proof/Decode.lean ====
section
/-! DEFINITION. The decoder, total on every byte string (30_encoding.md R102 to R108), the byte-order helpers
it shares with the machine (20_memory.md R60), and the encoder, written from the same tables. -/

namespace Sys2Proof

/-- The unsigned number a byte string is, most significant byte first (R60, R103). -/
def beNat (bs : List Byte) : Nat := bs.foldl (fun n b => n * 256 + b.toNat) 0

/-- The low `8n` bits of a number as `n` bytes, most significant byte first (R60, R64). -/
def beBytes : Nat → Nat → List Byte
  | 0, _ => []
  | n + 1, v => BitVec.ofNat 8 (v / 256 ^ n) :: beBytes n v

/-- The `n`-byte operand at command bytes `i .. i+n-1` (R103). -/
def operand (bs : List Byte) (i n : Nat) : Nat := beNat ((bs.drop i).take n)

/-- The ten command formats (R102), each with what it makes of its operands. -/
inductive Format where
  /-- 1 byte: no operand. -/
  | z (i : Instr)
  /-- 2 bytes: a register number. -/
  | r (k : Byte → Instr)
  /-- 8 bytes: a register number and a 48-bit value. -/
  | w (k : Byte → BitVec 48 → Instr)
  /-- 3 bytes: a 16-bit offset. -/
  | o (k : BitVec 16 → Instr)
  /-- 4 bytes: an offset and a byte. -/
  | ob (k : BitVec 16 → Byte → Instr)
  /-- 5 bytes: an offset and a count. -/
  | oc (k : BitVec 16 → BitVec 16 → Instr)
  /-- 5 bytes: an IPv4 address. -/
  | a (k : BitVec 32 → Instr)
  /-- 3 bytes: a TCP flag field. -/
  | f (k : BitVec 16 → Instr)
  /-- 3 + `len` bytes: one byte string. -/
  | s (k : List Byte → Instr)
  /-- 5 + `tlen` + `dlen` bytes: two byte strings. -/
  | ss (k : List Byte → List Byte → Instr)

/-- The opcode map (R105): opcode byte and format. -/
def opcodeMap : List (Byte × Format) :=
  [(0x01, .r .rd), (0x02, .w .wr), (0x03, .r .ipvalid), (0x04, .z .ctxLoad), (0x05, .s .rxLoad),
   (0x06, .z .rxOvf), (0x07, .o .pbRd), (0x08, .ob .pbWr), (0x09, .s .psbLoad), (0x0A, .o .psbRd),
   (0x10, .oc .acc), (0x11, .z .fold), (0x12, .z .ckIp), (0x13, .z .ckIcmp), (0x14, .z .ckUdp),
   (0x15, .z .ckTcp),
   (0x20, .z .isIp), (0x21, .z .isIpUnicast), (0x22, .z .isArpRequest), (0x23, .z .isArpReply),
   (0x24, .z .isPingRequest), (0x25, .z .isUdp), (0x26, .z .isTcp), (0x27, .z .isTcpAck),
   (0x28, .z .isTcpFinAck), (0x29, .z .isTcpResetAck), (0x2A, .z .isMqttConnectAck),
   (0x2B, .z .isMqttSubAck), (0x2C, .z .isMqttUnSubAck), (0x2D, .z .isMqttPublish),
   (0x30, .z .buildArpReply), (0x31, .a .buildArpRequest), (0x32, .z .buildIcmpEchoReply),
   (0x33, .z .buildUdpReply), (0x34, .f .buildTcpSegment),
   (0x40, .z .mqConnect), (0x41, .s .mqSubscribe), (0x42, .s .mqUnsubscribe), (0x43, .ss .mqPublish),
   (0x44, .z .mqDisconnect),
   (0x50, .z .fsmConnect), (0x51, .z .fsmStep)]

/-- The format of an opcode byte; `none` for a reserved one (R105, R106). -/
def formatOf (op : Byte) : Option Format := opcodeMap.lookup op

/-- The length of a format's fixed part, opcode included (R102, R104). For `SS` it is the five bytes that
are there whatever the strings' lengths are (log 11). -/
def Format.fixedLength : Format → Nat
  | .z _ => 1
  | .r _ => 2
  | .w _ => 8
  | .o _ => 3
  | .ob _ => 4
  | .oc _ => 5
  | .a _ => 5
  | .f _ => 3
  | .s _ => 3
  | .ss _ => 5

/-- The length the format requires of the command `bs`, "using the `len`, `tlen` and `dlen` fields for
formats `S` and `SS`" (R104). A byte the string does not have counts as absent, never as data. -/
def Format.requiredLength (bs : List Byte) : Format → Nat
  | .s _ => 3 + operand bs 1 2
  | .ss _ => 5 + operand bs 1 2 + operand bs (3 + operand bs 1 2) 2
  | fmt => fmt.fixedLength

/-- Operand assembly (R102, R103). -/
def Format.assemble (bs : List Byte) : Format → Instr
  | .z i => i
  | .r k => k (BitVec.ofNat 8 (operand bs 1 1))
  | .w k => k (BitVec.ofNat 8 (operand bs 1 1)) (BitVec.ofNat 48 (operand bs 2 6))
  | .o k => k (BitVec.ofNat 16 (operand bs 1 2))
  | .ob k => k (BitVec.ofNat 16 (operand bs 1 2)) (BitVec.ofNat 8 (operand bs 3 1))
  | .oc k => k (BitVec.ofNat 16 (operand bs 1 2)) (BitVec.ofNat 16 (operand bs 3 2))
  | .a k => k (BitVec.ofNat 32 (operand bs 1 4))
  | .f k => k (BitVec.ofNat 16 (operand bs 1 2))
  | .s k => k ((bs.drop 3).take (operand bs 1 2))
  | .ss k =>
    k ((bs.drop 3).take (operand bs 1 2))
      ((bs.drop (5 + operand bs 1 2)).take (operand bs (3 + operand bs 1 2) 2))

/-- The decoder's one verdict on a byte string (R104). -/
inductive Verdict where
  /-- The string is this command. -/
  | command (i : Instr)
  /-- Rejected: empty, a reserved opcode, or shorter than the fixed part of its format (R104, R286). -/
  | illegalOpcode
  /-- Rejected: the total length is not the length the format requires (R104, R287). -/
  | badOperand
deriving DecidableEq, Repr

/-- The decoder (R104): "Both checks come before every other check and before any write." -/
def decode : List Byte → Verdict
  | [] => .illegalOpcode
  | op :: args =>
    match formatOf op with
    | none => .illegalOpcode
    | some fmt =>
      if (op :: args).length < fmt.fixedLength then .illegalOpcode
      else if (op :: args).length ≠ fmt.requiredLength (op :: args) then .badOperand
      else .command (fmt.assemble (op :: args))

/-- A byte string with its 16-bit length field before it (R102, formats `S` and `SS`). -/
def lengthPrefixed (data : List Byte) : List Byte := beBytes 2 data.length ++ data

/-- The encoder (R102, R105): the bytes of a well-formed command. -/
def encode : Instr → List Byte
  | .rd reg => [0x01, reg]
  | .wr reg val => 0x02 :: reg :: beBytes 6 val.toNat
  | .ipvalid reg => [0x03, reg]
  | .ctxLoad => [0x04]
  | .rxLoad data => 0x05 :: lengthPrefixed data
  | .rxOvf => [0x06]
  | .pbRd off => 0x07 :: beBytes 2 off.toNat
  | .pbWr off byte => 0x08 :: (beBytes 2 off.toNat ++ [byte])
  | .psbLoad data => 0x09 :: lengthPrefixed data
  | .psbRd off => 0x0A :: beBytes 2 off.toNat
  | .acc off cnt => 0x10 :: (beBytes 2 off.toNat ++ beBytes 2 cnt.toNat)
  | .fold => [0x11]
  | .ckIp => [0x12]
  | .ckIcmp => [0x13]
  | .ckUdp => [0x14]
  | .ckTcp => [0x15]
  | .isIp => [0x20]
  | .isIpUnicast => [0x21]
  | .isArpRequest => [0x22]
  | .isArpReply => [0x23]
  | .isPingRequest => [0x24]
  | .isUdp => [0x25]
  | .isTcp => [0x26]
  | .isTcpAck => [0x27]
  | .isTcpFinAck => [0x28]
  | .isTcpResetAck => [0x29]
  | .isMqttConnectAck => [0x2A]
  | .isMqttSubAck => [0x2B]
  | .isMqttUnSubAck => [0x2C]
  | .isMqttPublish => [0x2D]
  | .buildArpReply => [0x30]
  | .buildArpRequest ip => 0x31 :: beBytes 4 ip.toNat
  | .buildIcmpEchoReply => [0x32]
  | .buildUdpReply => [0x33]
  | .buildTcpSegment flags => 0x34 :: beBytes 2 flags.toNat
  | .mqConnect => [0x40]
  | .mqSubscribe topic => 0x41 :: lengthPrefixed topic
  | .mqUnsubscribe topic => 0x42 :: lengthPrefixed topic
  | .mqPublish topic data => 0x43 :: (lengthPrefixed topic ++ lengthPrefixed data)
  | .mqDisconnect => [0x44]
  | .fsmConnect => [0x50]
  | .fsmStep => [0x51]

/-- The bytes of an opcode-table word: byte `k` is bits `8k+7 .. 8k` of `w`. -/
def wordBytes (nbits w : Nat) : List Byte :=
  (List.range (nbits / 8)).map (fun k => BitVec.ofNat 8 (w / 256 ^ k))

/-- The whole command an opcode-table word stands for: the word's bytes, and then bytes of zero up to the
length the command's own format requires (log 6). -/
def tableCommand (nbits w : Nat) : List Byte :=
  match formatOf (BitVec.ofNat 8 w) with
  | none => wordBytes nbits w
  | some fmt =>
    wordBytes nbits w
      ++ List.replicate (fmt.requiredLength (wordBytes nbits w ++ List.replicate 5 0) - nbits / 8) 0

/-- The command the decoder reads from an opcode-table word. -/
def decodeTableWord (nbits w : Nat) : Option Instr :=
  match decode (tableCommand nbits w) with
  | .command i => some i
  | .illegalOpcode => none
  | .badOperand => none

end Sys2Proof
end

