-- ==== Sys2Proof/Config.lean ====
section
/-! DEFINITION. What is fixed for the machine: the fixed parameters (00_scope.md R5), the open parameters
(R6), and the free values: constants without a body, of which nothing can be proved but that they have
their type. -/

namespace Sys2Proof

/-- The open parameters (R6): what the spec has the model take "as an argument (a field of its
configuration record)". -/
structure Params where
  /-- `IP_TTL`, the TTL byte of every IPv4 header `BuildTcpSegment` makes. -/
  ipTtl : BitVec 8
  /-- `TCP_WINDOW`, the window field of every TCP header `BuildTcpSegment` makes. -/
  tcpWindow : BitVec 16
  /-- `CLIENT_ID[0]`, `CLIENT_ID[1]`, `CLIENT_ID[2]`, the client identifier of `MQ.CONNECT`. -/
  clientId0 : BitVec 8
  clientId1 : BitVec 8
  clientId2 : BitVec 8
deriving DecidableEq, Repr

end Sys2Proof

namespace Sys2Proof.Config

/-- `PB_CAP`, the capacity of the PacketBuffer in bytes (R5). -/
def pbCap : Nat := 1522

/-- `PSB_CAP`, the capacity of the payload staging buffer in bytes (R5). -/
def psbCap : Nat := 1468

/-- `MQTT_PORT` (R5), the destination port `CTX.LOAD` writes. -/
def mqttPort : Nat := 1883

/-- The option bytes `02 04 04 C4` of a SYN: kind 2, length 4, `MSS` = 1220 (R5, R74). -/
def mssOption : Nat := 0x020404C4

/-- Free values. The open parameters of the machine that `State.reset` belongs to (R6, log 3). -/
opaque ipTtl : BitVec 8
opaque tcpWindow : BitVec 16
opaque clientId : Nat → BitVec 8

/-- The open parameters as one record (R6, log 3). -/
def params : Params := ⟨ipTtl, tcpWindow, clientId 0, clientId 1, clientId 2⟩

/-- Free value. What register `number` of width `w` holds after the reset that begins `epoch`, where the
spec states no reset value: "some value of its width, fixed at reset and stable until written, which no
rule tells" (10_state.md R47, R48; DESIGN CHOICE, log 1). -/
opaque unspecReg (w epoch number : Nat) : BitVec w

/-- Free value. The byte of `PB` at `offset` after the reset that begins `epoch` (R47, R48; log 2). -/
opaque unspecPb (epoch offset : Nat) : BitVec 8

/-- Free value. The byte of `PSB` at `offset` after the reset that begins `epoch` (R47, R48; log 2). -/
opaque unspecPsb (epoch offset : Nat) : BitVec 8

/-- Free value. The driver's answer to a transmit, one bit that "the CORE has no way to predict or
influence" (42_builders.md R180; log 4); `n` is the number of answers asked for before. -/
opaque driverTransmits (n : Nat) : Bool

/-- Free value. The driver's answer to `isRxOverflow` (45_system.md R255; log 5). -/
opaque driverOverflow (n : Nat) : Bool

end Sys2Proof.Config
end

