-- ==== Sys2Proof/Machine/State.lean ====
section
/-! DEFINITION. The state of the CORE (10_state.md R20 to R48) as plain data, the reasons a step could stop,
and the state after reset (R47, 70_reset_and_hazards.md R310). -/

namespace Sys2Proof.Machine

/-- The fault codes a command can raise (60_exceptions.md R282). They are no stop of the machine: a command
that faults ends in a next state (R280, R283). -/
inductive CmdFault where
  /-- 0x01: the decoder, on an empty command, a reserved opcode or a missing fixed part (R286). -/
  | illegalOpcode
  /-- 0x02: an operand, or the command's length, is not acceptable (R287). -/
  | badOperand
  /-- 0x03: an access would leave a buffer (R288). -/
  | bounds
  /-- 0x04: the length fields of the frame contradict each other (R289). -/
  | badLength
deriving DecidableEq, Repr

/-- What `ERR` can hold (R36, R282): "Codes 0x06 to 0xFF are never produced". -/
inductive Status where
  /-- 0x00 `OK` (R285). -/
  | ok
  /-- 0x01 to 0x04, the code of a fault (R283). -/
  | fault (f : CmdFault)
  /-- 0x05 `TX_ABORT` (R290). -/
  | txAbort
deriving DecidableEq, Repr

/-- The four flags of `FLAGS` (R35). -/
structure Flags where
  /-- bit 0 `MATCH` -/
  matched : Bool
  /-- bit 1 `TXOK` -/
  txok : Bool
  /-- bit 2 `OVF` -/
  ovf : Bool
  /-- bit 3 `FLT` -/
  flt : Bool
deriving DecidableEq, Repr

/-- What `FSM_STATE` can hold (R34): "The value 7 is never produced by any rule". -/
inductive FsmState where
  | idle
  | sendArpRequest
  | waitArpResponse
  | sendTcpSyn
  | waitTcpSynAck
  | sendTcpAck
  | tcpConnectionActive
deriving DecidableEq, Repr

/-- The contents of a buffer: the bytes written since reset, by offset, in strictly rising order. An
offset that is not listed has not been written since reset. -/
abbrev Memory := List Host.Cell

/-- One entry of the transmit log (42_builders.md R180): the frame handed over, and the driver's answer. -/
structure TxRecord where
  frame : List Byte
  ok : Bool
deriving DecidableEq, Repr

/-- One response record (30_encoding.md R101): the three status registers as a command left them. -/
structure Response where
  err : Status
  flags : Flags
  result : BitVec 48
deriving DecidableEq, Repr

/-- One transaction of the host with the CORE (R100): a whole command on the command port, or the reset
input. -/
inductive HostInput where
  | command (bytes : List Byte)
  | reset
deriving DecidableEq, Repr

/-- The state. Registers under the names of 10_state.md, the two buffers, and below them the model's own
fields: the open parameters, the inputs still to come, and the records of what went out (R45, R101). -/
structure State where
  /-- `LOCAL_MAC`, 0x00 (R21) -/
  localMac : BitVec 48
  /-- `LOCAL_IP`, 0x01 (R22) -/
  localIp : BitVec 32
  /-- `SUBNET_MASK`, 0x02 (R23) -/
  subnetMask : BitVec 32
  /-- `GATEWAY_IP`, 0x03 (R24) -/
  gatewayIp : BitVec 32
  /-- `BROKER_IP`, 0x04 (R25) -/
  brokerIp : BitVec 32
  /-- `BROKER_MAC`, 0x05 (R26) -/
  brokerMac : BitVec 48
  /-- `DHCP_EN`, 0x06 (R27) -/
  dhcpEn : BitVec 1
  /-- `IP_ID`, 0x07 (R28) -/
  ipId : BitVec 16
  /-- `TCP_SEQ`, 0x08 (R29) -/
  tcpSeq : BitVec 32
  /-- `TCP_ACK`, 0x09 (R30) -/
  tcpAck : BitVec 32
  /-- `CTX_SRC_MAC`, 0x10 (R31) -/
  ctxSrcMac : BitVec 48
  /-- `CTX_DST_MAC`, 0x11 (R31) -/
  ctxDstMac : BitVec 48
  /-- `CTX_SRC_IP`, 0x12 (R31) -/
  ctxSrcIp : BitVec 32
  /-- `CTX_DST_IP`, 0x13 (R31) -/
  ctxDstIp : BitVec 32
  /-- `CTX_SRC_PORT`, 0x14 (R31) -/
  ctxSrcPort : BitVec 16
  /-- `CTX_DST_PORT`, 0x15 (R31) -/
  ctxDstPort : BitVec 16
  /-- `SUM`, 0x20 (R38) -/
  sum : BitVec 32
  /-- `RESULT`, 0x21 (R37) -/
  result : BitVec 48
  /-- `FLAGS`, 0x22 (R35) -/
  flags : Flags
  /-- `ERR`, 0x23 (R36) -/
  err : Status
  /-- `FSM_STATE`, 0x24 (R34) -/
  fsm : FsmState
  /-- `RX_LEN`, 0x25 (R39) -/
  rxLen : BitVec 16
  /-- `PSB_LEN`, 0x26 (R40) -/
  psbLen : BitVec 16
  /-- `MQ_LEN`, 0x27 (R41) -/
  mqLen : BitVec 8
  /-- The PacketBuffer `PB`, offsets 0 to 1521 (R42) -/
  pb : Memory
  /-- The payload staging buffer `PSB`, offsets 0 to 1467 (R43) -/
  psb : Memory
  /-- Model's own: the open parameters of this machine (00_scope.md R6, log 3) -/
  params : Params
  /-- Model's own: what the host has still to issue, oldest first (R100, log 6) -/
  inbox : List HostInput
  /-- Model's own: the driver's coming answers to `Transmit` (R45, U7, log 4) -/
  txAnswers : List Bool
  /-- Model's own: the driver's coming answers to `isRxOverflow` (R45, U8, log 5) -/
  ovfAnswers : List Bool
  /-- Model's own: how many driver answers have been asked for (logs 4, 5) -/
  draws : Nat
  /-- Model's own: how many reset inputs have been applied (logs 1, 2, 7) -/
  epoch : Nat
  /-- Model's own: the transmit log, oldest first (R45, R180) -/
  txLog : List TxRecord
  /-- Model's own: the response records, oldest first (R101, log 8) -/
  responses : List Response
deriving DecidableEq, Repr

/-- The reasons a step could stop with a fault: none. "No point of this spec has the treatment `stuck`:
there is no state from which the CORE cannot accept the next command" (93_implementation_defined.md). -/
inductive Fault where
deriving DecidableEq, Repr

/-- The reasons a step could be refused. -/
inductive Refusal where
  /-- Raised by `exec` for a command without a meaning; safe. No arm of `exec` answers it. -/
  | notModelled (mnemonic : String)
deriving DecidableEq, Repr

/-- The state right after the reset that begins `epoch` (R47, R310): the values the spec states, an
unspecified value of its own for every register it states none for (R48, log 1), no byte of a buffer
written (log 2), the records empty. -/
def State.afterReset (epoch : Nat) : State where
  localMac := Config.unspecReg 48 epoch 0x00
  localIp := Config.unspecReg 32 epoch 0x01
  subnetMask := Config.unspecReg 32 epoch 0x02
  gatewayIp := Config.unspecReg 32 epoch 0x03
  brokerIp := Config.unspecReg 32 epoch 0x04
  brokerMac := Config.unspecReg 48 epoch 0x05
  dhcpEn := Config.unspecReg 1 epoch 0x06
  ipId := Config.unspecReg 16 epoch 0x07
  tcpSeq := Config.unspecReg 32 epoch 0x08
  tcpAck := Config.unspecReg 32 epoch 0x09
  ctxSrcMac := Config.unspecReg 48 epoch 0x10
  ctxDstMac := Config.unspecReg 48 epoch 0x11
  ctxSrcIp := Config.unspecReg 32 epoch 0x12
  ctxDstIp := Config.unspecReg 32 epoch 0x13
  ctxSrcPort := Config.unspecReg 16 epoch 0x14
  ctxDstPort := Config.unspecReg 16 epoch 0x15
  sum := Config.unspecReg 32 epoch 0x20
  result := 0
  flags := ⟨false, false, false, false⟩
  err := .ok
  fsm := .idle
  rxLen := 0
  psbLen := 0
  mqLen := 0
  pb := []
  psb := []
  params := Config.params
  inbox := []
  txAnswers := []
  ovfAnswers := []
  draws := 0
  epoch := epoch
  txLog := []
  responses := []

/-- The machine right after reset (R47, R310). -/
def State.reset : State := State.afterReset 0

end Sys2Proof.Machine
end

