-- ==== Sys2Proof/Machine/Ops.lean ====
section
/-! DEFINITION. The named operations over the buffers and the registers: bytes and big-endian fields of `PB`
and `PSB` (20_memory.md R60 to R66), the end of a command (60_exceptions.md R283, R284), the transmit
primitive (42_builders.md R180), the driver's answers (10_state.md R45), the reset input
(70_reset_and_hazards.md R310) and the command port (30_encoding.md R100, R101). -/

namespace Sys2Proof.Machine

/-! ### Memory in its canonical form -/

/-- The byte listed at an offset, `none` when nothing has been written there since reset. -/
def Memory.get? : Memory → Nat → Option Byte
  | [], _ => none
  | (k, v) :: m, a => if k = a then some v else Memory.get? m a

/-- Write one byte, keeping the offsets strictly rising. -/
def Memory.set : Memory → Nat → Byte → Memory
  | [], a, b => [(a, b)]
  | (k, v) :: m, a, b =>
    if a < k then (a, b) :: (k, v) :: m
    else if a = k then (a, b) :: m
    else (k, v) :: Memory.set m a b

/-- Write a run of bytes from an offset on, in rising order. -/
def Memory.setMany : Memory → Nat → List Byte → Memory
  | m, _, [] => m
  | m, a, b :: bs => Memory.setMany (Memory.set m a b) (a + 1) bs

/-- The canonical form: offsets strictly rising. No entry can equal what an unlisted offset reads as,
because that is no listed byte at all (log 2). -/
def Memory.wf (m : Memory) : Bool := decide (m.Pairwise (fun x y => x.1 < y.1))

/-- Every listed offset is below a capacity (R42, R43). -/
def Memory.within (cap : Nat) (m : Memory) : Bool := m.all (fun c => decide (c.1 < cap))

/-! ### The two buffers -/

/-- `PB[a]` (00_scope.md R10); a byte not written since reset reads as its unspecified value (R48). -/
def State.pbAt (s : State) (a : Nat) : Byte := (s.pb.get? a).getD (Config.unspecPb s.epoch a)

/-- `PSB[a]` (R10, R48). -/
def State.psbAt (s : State) (a : Nat) : Byte := (s.psb.get? a).getD (Config.unspecPsb s.epoch a)

/-- The bytes `PB[a .. a+n-1]`. -/
def State.pbBytes (s : State) (a n : Nat) : List Byte := (List.range n).map (fun i => s.pbAt (a + i))

/-- The bytes `PSB[a .. a+n-1]`. -/
def State.psbBytes (s : State) (a n : Nat) : List Byte := (List.range n).map (fun i => s.psbAt (a + i))

/-- Store bytes in `PB` from offset `a` on (R64). -/
def State.pbStore (s : State) (a : Nat) (bs : List Byte) : State := { s with pb := s.pb.setMany a bs }

/-- Store bytes in `PSB` from offset `a` on (R43). -/
def State.psbStore (s : State) (a : Nat) (bs : List Byte) : State := { s with psb := s.psb.setMany a bs }

/-- `MemRead(a, n)` (R63): the unsigned big-endian number at `PB[a .. a+n-1]`. -/
def State.memRead (s : State) (a n : Nat) : Nat := beNat (s.pbBytes a n)

/-- `MemWrite(a, n, v)` (R64): the low `8n` bits of `v`, big-endian. -/
def State.memWrite (s : State) (a n v : Nat) : State := s.pbStore a (beBytes n v)

/-- A sequence of `MemWrite(a, n, v)`, first to last; later ones see earlier ones (R64, R181 (b)). -/
def State.memWrites (s : State) (ws : List (Nat × Nat × Nat)) : State :=
  ws.foldl (fun t w => t.memWrite w.1 w.2.1 w.2.2) s

/-! ### How a command ends -/

/-- Taking a fault, `raise F` (R283): `ERR` gets the code, `FLT` is set, and nothing else changes. There is
nothing to return from (R297, R298). -/
def State.raise (s : State) (f : CmdFault) : State :=
  { s with err := .fault f, flags := { s.flags with flt := true } }

/-- The common completion (R284): `ERR <- OK`. -/
def State.complete (s : State) : State := { s with err := .ok }

/-- `x[RESULT] <- zext_48(v)` (R37). -/
def State.withResult (s : State) (v : Nat) : State := { s with result := BitVec.ofNat 48 v }

/-- `x[FLAGS].MATCH <- p` (R35). -/
def State.withMatch (s : State) (p : Bool) : State := { s with flags := { s.flags with matched := p } }

/-! ### The driver -/

/-- The driver's answer to the next `transmitFrame` (R45, R180; log 4). -/
def State.nextTxAnswer (s : State) : Bool :=
  match s.txAnswers with
  | ok :: _ => ok
  | [] => Config.driverTransmits s.draws

/-- The driver's answer to the next `isRxOverflow` (R45, R255; log 5). -/
def State.nextOvfAnswer (s : State) : Bool :=
  match s.ovfAnswers with
  | o :: _ => o
  | [] => Config.driverOverflow s.draws

/-- `Transmit(n)` (R180): hand `PB[0 .. n-1]` to the driver, log it with the answer, and report the answer
in `TXOK` and `ERR`. `PB` is not changed. -/
def State.transmit (s : State) (n : Nat) : State :=
  { s with
    txLog := s.txLog ++ [⟨s.pbBytes 0 n, s.nextTxAnswer⟩]
    flags := { s.flags with txok := s.nextTxAnswer }
    err := if s.nextTxAnswer then .ok else .txAbort
    txAnswers := s.txAnswers.tail
    draws := s.draws + 1 }

/-- The poll of the overflow indicator (R255): `x[FLAGS].OVF <- driver.isRxOverflow()`. -/
def State.pollOverflow (s : State) : State :=
  { s with
    flags := { s.flags with ovf := s.nextOvfAnswer }
    ovfAnswers := s.ovfAnswers.tail
    draws := s.draws + 1 }

/-! ### The host's side -/

/-- The reset input (R310, R311): the CORE's state becomes the reset state with unspecified values of its
own; the environment is not consulted and what it holds stays (log 7). -/
def State.applyReset (s : State) : State :=
  { State.afterReset (s.epoch + 1) with
    params := s.params
    inbox := s.inbox
    txAnswers := s.txAnswers
    ovfAnswers := s.ovfAnswers
    draws := s.draws }

/-- The response record of the command that has just finished (R101): `ERR`, `FLAGS`, `RESULT` as they
stand. -/
def State.respond (s : State) : State := { s with responses := s.responses ++ [⟨s.err, s.flags, s.result⟩] }

/-- What the CORE finds on its inputs. -/
inductive Arrival where
  /-- Nothing: the CORE waits (R305, R310). -/
  | nothing
  /-- The reset input; `rest` is the state without it. -/
  | reset (rest : State)
  /-- A command; `rest` is the state without it. -/
  | command (bytes : List Byte) (rest : State)
deriving DecidableEq, Repr

/-- Take the host's next transaction (R79, R100): "in the order the host issues them". -/
def State.takeInput (s : State) : Arrival :=
  match s.inbox with
  | [] => .nothing
  | .reset :: rest => .reset { s with inbox := rest }
  | .command bytes :: rest => .command bytes { s with inbox := rest }

end Sys2Proof.Machine
end

