-- ==== Sys2Proof/Machine/Flags.lean ====
section
/-! DEFINITION. The status registers as numbers: the byte of `FLAGS` (10_state.md R35), the codes of `ERR`
(R36, 60_exceptions.md R282), the number of `FSM_STATE` (R34), and the 8 bytes of a response record
(30_encoding.md R101). -/

namespace Sys2Proof.Machine

/-- The byte of `FLAGS` (R35): bit 0 `MATCH`, bit 1 `TXOK`, bit 2 `OVF`, bit 3 `FLT`, bits 7 to 4 zero. -/
def Flags.byte (f : Flags) : BitVec 8 :=
  BitVec.ofNat 8 (f.matched.toNat + 2 * f.txok.toNat + 4 * f.ovf.toNat + 8 * f.flt.toNat)

/-- The code of a fault (R282). -/
def CmdFault.code : CmdFault → BitVec 8
  | .illegalOpcode => 0x01
  | .badOperand => 0x02
  | .bounds => 0x03
  | .badLength => 0x04

/-- The byte of `ERR` (R36, R282). -/
def Status.code : Status → BitVec 8
  | .ok => 0x00
  | .fault f => f.code
  | .txAbort => 0x05

/-- The number of `FSM_STATE` (R34). -/
def FsmState.number : FsmState → BitVec 3
  | .idle => 0
  | .sendArpRequest => 1
  | .waitArpResponse => 2
  | .sendTcpSyn => 3
  | .waitTcpSynAck => 4
  | .sendTcpAck => 5
  | .tcpConnectionActive => 6

/-- The 8 bytes of a response record (R101): `ERR`, `FLAGS`, `RESULT` big-endian. -/
def Response.bytes (r : Response) : List Byte := r.err.code :: r.flags.byte :: beBytes 6 r.result.toNat

end Sys2Proof.Machine
end

