-- ==== Sys2Proof/Machine/Operands.lean ====
section
/-! DEFINITION. The operand forms: register numbers (10_state.md R20 to R41), the class and width of each
register, reads and writes of a register by its number (45_system.md R250, R251), the registers `IPVALID`
takes (R252) and the TCP flag fields `BuildTcpSegment` takes (42_builders.md R186). -/

namespace Sys2Proof.Machine

/-- The 24 registers (R20). -/
inductive Reg where
  | localMac | localIp | subnetMask | gatewayIp | brokerIp | brokerMac | dhcpEn | ipId | tcpSeq | tcpAck
  | ctxSrcMac | ctxDstMac | ctxSrcIp | ctxDstIp | ctxSrcPort | ctxDstPort
  | sum | result | flags | err | fsmState | rxLen | psbLen | mqLen
deriving DecidableEq, Repr

/-- The register file in order of number. -/
def Reg.all : List Reg :=
  [.localMac, .localIp, .subnetMask, .gatewayIp, .brokerIp, .brokerMac, .dhcpEn, .ipId, .tcpSeq, .tcpAck,
   .ctxSrcMac, .ctxDstMac, .ctxSrcIp, .ctxDstIp, .ctxSrcPort, .ctxDstPort,
   .sum, .result, .flags, .err, .fsmState, .rxLen, .psbLen, .mqLen]

/-- The register number (R21 to R41). -/
def Reg.number : Reg → Byte
  | .localMac => 0x00
  | .localIp => 0x01
  | .subnetMask => 0x02
  | .gatewayIp => 0x03
  | .brokerIp => 0x04
  | .brokerMac => 0x05
  | .dhcpEn => 0x06
  | .ipId => 0x07
  | .tcpSeq => 0x08
  | .tcpAck => 0x09
  | .ctxSrcMac => 0x10
  | .ctxDstMac => 0x11
  | .ctxSrcIp => 0x12
  | .ctxDstIp => 0x13
  | .ctxSrcPort => 0x14
  | .ctxDstPort => 0x15
  | .sum => 0x20
  | .result => 0x21
  | .flags => 0x22
  | .err => 0x23
  | .fsmState => 0x24
  | .rxLen => 0x25
  | .psbLen => 0x26
  | .mqLen => 0x27

/-- The register a number names; `none` for a reserved number (R20). -/
def Reg.ofNumber? (n : Byte) : Option Reg := Reg.all.find? (fun r => r.number == n)

/-- The width in bits (R21 to R41). -/
def Reg.width : Reg → Nat
  | .localMac => 48
  | .localIp => 32
  | .subnetMask => 32
  | .gatewayIp => 32
  | .brokerIp => 32
  | .brokerMac => 48
  | .dhcpEn => 1
  | .ipId => 16
  | .tcpSeq => 32
  | .tcpAck => 32
  | .ctxSrcMac => 48
  | .ctxDstMac => 48
  | .ctxSrcIp => 32
  | .ctxDstIp => 32
  | .ctxSrcPort => 16
  | .ctxDstPort => 16
  | .sum => 32
  | .result => 48
  | .flags => 8
  | .err => 8
  | .fsmState => 3
  | .rxLen => 16
  | .psbLen => 16
  | .mqLen => 8

/-- The registers of class RO (R34 to R37, R39 to R41): numbers 0x21 to 0x27. -/
def Reg.readOnly : Reg → Bool
  | .result => true
  | .flags => true
  | .err => true
  | .fsmState => true
  | .rxLen => true
  | .psbLen => true
  | .mqLen => true
  | _ => false

/-- `x[reg]` as an unsigned number (R10, R250). -/
def State.readReg (s : State) : Reg → Nat
  | .localMac => s.localMac.toNat
  | .localIp => s.localIp.toNat
  | .subnetMask => s.subnetMask.toNat
  | .gatewayIp => s.gatewayIp.toNat
  | .brokerIp => s.brokerIp.toNat
  | .brokerMac => s.brokerMac.toNat
  | .dhcpEn => s.dhcpEn.toNat
  | .ipId => s.ipId.toNat
  | .tcpSeq => s.tcpSeq.toNat
  | .tcpAck => s.tcpAck.toNat
  | .ctxSrcMac => s.ctxSrcMac.toNat
  | .ctxDstMac => s.ctxDstMac.toNat
  | .ctxSrcIp => s.ctxSrcIp.toNat
  | .ctxDstIp => s.ctxDstIp.toNat
  | .ctxSrcPort => s.ctxSrcPort.toNat
  | .ctxDstPort => s.ctxDstPort.toNat
  | .sum => s.sum.toNat
  | .result => s.result.toNat
  | .flags => s.flags.byte.toNat
  | .err => s.err.code.toNat
  | .fsmState => s.fsm.number.toNat
  | .rxLen => s.rxLen.toNat
  | .psbLen => s.psbLen.toNat
  | .mqLen => s.mqLen.toNat

/-- `x[reg] <- val[w-1 : 0]` for a register of class RW (R251); a register of class RO keeps its value
(`WR` faults on it before it gets here). -/
def State.writeReg (s : State) (r : Reg) (val : BitVec 48) : State :=
  match r with
  | .localMac => { s with localMac := val }
  | .localIp => { s with localIp := val.setWidth 32 }
  | .subnetMask => { s with subnetMask := val.setWidth 32 }
  | .gatewayIp => { s with gatewayIp := val.setWidth 32 }
  | .brokerIp => { s with brokerIp := val.setWidth 32 }
  | .brokerMac => { s with brokerMac := val }
  | .dhcpEn => { s with dhcpEn := val.setWidth 1 }
  | .ipId => { s with ipId := val.setWidth 16 }
  | .tcpSeq => { s with tcpSeq := val.setWidth 32 }
  | .tcpAck => { s with tcpAck := val.setWidth 32 }
  | .ctxSrcMac => { s with ctxSrcMac := val }
  | .ctxDstMac => { s with ctxDstMac := val }
  | .ctxSrcIp => { s with ctxSrcIp := val.setWidth 32 }
  | .ctxDstIp => { s with ctxDstIp := val.setWidth 32 }
  | .ctxSrcPort => { s with ctxSrcPort := val.setWidth 16 }
  | .ctxDstPort => { s with ctxDstPort := val.setWidth 16 }
  | .sum => { s with sum := val.setWidth 32 }
  | .result => s
  | .flags => s
  | .err => s
  | .fsmState => s
  | .rxLen => s
  | .psbLen => s
  | .mqLen => s

/-- The registers `IPVALID` takes (R252): 0x01 to 0x04, 0x12, 0x13. -/
def Reg.isAddress : Reg → Bool
  | .localIp => true
  | .subnetMask => true
  | .gatewayIp => true
  | .brokerIp => true
  | .ctxSrcIp => true
  | .ctxDstIp => true
  | _ => false

/-- The register of an `RD`, `none` for `BAD_OPERAND` (R250). -/
def readableReg (n : Byte) : Option Reg := Reg.ofNumber? n

/-- The register of a `WR`, `none` for `BAD_OPERAND` (R251). -/
def writableReg (n : Byte) : Option Reg := (Reg.ofNumber? n).filter (fun r => !r.readOnly)

/-- The register of an `IPVALID`, `none` for `BAD_OPERAND` (R252). -/
def addressReg (n : Byte) : Option Reg := (Reg.ofNumber? n).filter Reg.isAddress

/-- TCP flag fields (20_memory.md R73). -/
def flagFin : Nat := 0x001
def flagSyn : Nat := 0x002
def flagRst : Nat := 0x004
def flagAck : Nat := 0x010
def flagFinAck : Nat := 0x011
def flagSynAck : Nat := 0x012
def flagRstAck : Nat := 0x014
def flagPushAck : Nat := 0x018

/-- The flag fields `BuildTcpSegment` accepts (R186): SYN, ACK, FIN-ACK, RST, RST-ACK, FIN, PUSH-ACK. A
value with any of bits 15:12 set is none of them. -/
def acceptedTcpFlags : List Nat := [flagSyn, flagAck, flagFinAck, flagRst, flagRstAck, flagFin, flagPushAck]

end Sys2Proof.Machine
end

