-- ==== Sys2Proof/Machine/Views.lean ====
section
/-! DEFINITION. The frame views on `PB`: where each header field stands (20_memory.md R68 to R75) and the
header-location functions (R77). They are evaluated on the bytes that are in `PB` when they are asked, so
they see a command's own earlier writes (R64; log 10). -/

namespace Sys2Proof.Machine

/-- `EthType()`: the frame type (R68, R77). -/
def State.ethType (s : State) : Nat := s.memRead 12 2

/-- `Ihl()`: the measured IPv4 header length in bytes, "`(revSize & 0xF) * 4`" (R69, R77). -/
def State.ihl (s : State) : Nat := s.memRead 14 1 % 16 * 4

/-- `IpTotLen()`: the IPv4 total length (R69, R77). -/
def State.ipTotLen (s : State) : Nat := s.memRead 16 2

/-- `IpProto()`: the IPv4 protocol byte (R69, R77). -/
def State.ipProto (s : State) : Nat := s.memRead 23 1

/-- `L4Base()`: the offset of the IPv4 payload (R77). -/
def State.l4Base (s : State) : Nat := 14 + s.ihl

/-- `L4Len()` (R77): "defined only when `IpTotLen() >= Ihl()`"; every command asks that first. -/
def State.l4Len (s : State) : Nat := s.ipTotLen - s.ihl

/-- `TcpDoff()`: the TCP data offset in words, the high nibble of header byte 12 (R73, R77). -/
def State.tcpDoff (s : State) : Nat := s.memRead (s.l4Base + 12) 1 / 16

/-- `TcpFlags()`: the 12-bit flag field, bits 11:0 of the word at header offset 12 (R73, R77). -/
def State.tcpFlags (s : State) : Nat := s.memRead (s.l4Base + 12) 2 % 4096

/-- `MqBase()`: the offset of the first data byte of the TCP segment (R75, R77). -/
def State.mqBase (s : State) : Nat := s.l4Base + s.tcpDoff * 4

/-- Frame types (R68). -/
def typeIpv4 : Nat := 0x0800
def typeArp : Nat := 0x0806

/-- IPv4 protocol numbers (R69). -/
def protoIcmp : Nat := 1
def protoTcp : Nat := 6
def protoUdp : Nat := 17

/-- ARP operations (R70). -/
def arpRequest : Nat := 1
def arpReply : Nat := 2

end Sys2Proof.Machine
end

