-- ==== Sys2Proof/Machine/Sums.lean ====
section
/-! DEFINITION. The Checksum Engine's functions `Acc` and `Fold` (40_checksum.md R130, R131) and the
procedures built from them (R134). Each procedure accumulates in a private temporary; none touches `SUM`
(10_state.md R38). -/

namespace Sys2Proof.Machine

/-- The big-endian 16-bit word of two bytes. -/
def wordOf (hi lo : Byte) : Nat := hi.toNat * 256 + lo.toNat

/-- The loop of `Acc` (R130): `k` words from offset `a`, every addition a 32-bit addition that wraps. -/
def accWords (rd : Nat → Byte) : Nat → Nat → BitVec 32 → BitVec 32
  | _, 0, x => x
  | a, k + 1, x => accWords rd (a + 2) k (x + BitVec.ofNat 32 (wordOf (rd a) (rd (a + 1))))

/-- `Acc(a, n, x)` (R130) over the bytes that `rd` reads: the words, and a trailing odd byte as the high
byte of a word. -/
def acc (rd : Nat → Byte) (a n : Nat) (x : BitVec 32) : BitVec 32 :=
  if n % 2 = 1 then accWords rd a (n / 2) x + BitVec.ofNat 32 (wordOf (rd (a + n - 1)) 0)
  else accWords rd a (n / 2) x

/-- One round of `Fold`'s loop (R131): `s[15:0] + s[31:16]`. -/
def foldRound (x : BitVec 32) : BitVec 32 := BitVec.ofNat 32 (x.toNat % 65536 + x.toNat / 65536)

/-- `Fold`'s loop with a bound on its rounds: "while `s[31:16] != 0`" (R131). -/
def foldLoop : Nat → BitVec 32 → BitVec 32
  | 0, x => x
  | k + 1, x => if x.toNat / 65536 = 0 then x else foldLoop k (foldRound x)

/-- `Fold(s)` (R131): "The loop runs at most twice", then the one's complement of the low 16 bits. -/
def fold (x : BitVec 32) : BitVec 16 := ~~~ (BitVec.ofNat 16 (foldLoop 2 x).toNat)

/-- `Acc` over `PB` (R130). -/
def State.acc (s : State) (a n : Nat) (x : BitVec 32) : BitVec 32 := Machine.acc s.pbAt a n x

/-- `IpSum()` (R134): the header bytes only. -/
def State.ipSum (s : State) : BitVec 32 := s.acc 14 s.ihl 0

/-- `PseudoSum(proto)` (R134, R76): the addresses as they stand in the IPv4 header, the protocol, the
layer-4 length. -/
def State.pseudoSum (s : State) (proto : Nat) : BitVec 32 :=
  s.acc 26 8 0 + BitVec.ofNat 32 proto + BitVec.ofNat 32 s.l4Len

/-- `L4Sum(proto)` (R134). -/
def State.l4Sum (s : State) (proto : Nat) : BitVec 32 := s.acc s.l4Base s.l4Len (s.pseudoSum proto)

/-- `IcmpSum()` (R134): no pseudo-header. -/
def State.icmpSum (s : State) : BitVec 32 := s.acc s.l4Base s.l4Len 0

/-- The checksum `Inject*` writes into the field at `f` (R134): the fold of the sum "with the real checksum
field zeroed during accumulation". -/
def State.checksumFor (s : State) (f : Nat) (sumOf : State → BitVec 32) : BitVec 16 :=
  fold (sumOf (s.memWrite f 2 0))

/-- `Inject*` (R134): zero the field at `f`, compute, write the checksum back, exactly as folded. -/
def State.inject (s : State) (f : Nat) (sumOf : State → BitVec 32) : State :=
  (s.memWrite f 2 0).memWrite f 2 (s.checksumFor f sumOf).toNat

/-- `InjectIp()` (R134). -/
def State.injectIp (s : State) : State := s.inject 24 State.ipSum

/-- `InjectIcmp()` (R134). -/
def State.injectIcmp (s : State) : State := s.inject (s.l4Base + 2) State.icmpSum

/-- `InjectUdp()` (R134). -/
def State.injectUdp (s : State) : State := s.inject (s.l4Base + 6) (fun t => t.l4Sum protoUdp)

/-- `InjectTcp()` (R134). -/
def State.injectTcp (s : State) : State := s.inject (s.l4Base + 16) (fun t => t.l4Sum protoTcp)

end Sys2Proof.Machine
end

