-- ==== Sys2Proof/Machine/Checksum.lean ====
section
/-! DEFINITION. The Checksum Engine's commands (40_checksum.md R132 to R138). -/

namespace Sys2Proof.Machine

/-- `ACC off, cnt` (R132): the sum `off + cnt` is compared as an integer. -/
def execAcc (off cnt : BitVec 16) (s : State) : Host.Outcome State Fault Refusal :=
  .next <|
    if off.toNat + cnt.toNat > Config.pbCap then s.raise .bounds
    else { s with sum := s.acc off.toNat cnt.toNat s.sum }.complete

/-- `FOLD` (R133): `SUM` is not changed. -/
def execFold (s : State) : Host.Outcome State Fault Refusal :=
  .next (s.withResult (fold s.sum).toNat).complete

/-- What keeps a command off an inconsistent layer-4 length (R136 to R138, 42_builders.md R184), in the
order of the checks: the total length below the header length, the payload past the buffer, the payload
below `least` bytes. -/
def State.l4Fault (s : State) (least : Nat) : Option CmdFault :=
  if s.ipTotLen < s.ihl then some .badLength
  else if 14 + s.ipTotLen > Config.pbCap then some .bounds
  else if s.l4Len < least then some .badLength
  else none

/-- A checksum injected at `f` and handed back in `RESULT` (R135 to R138). -/
def State.injectCommand (s : State) (f : Nat) (sumOf : State → BitVec 32) : State :=
  ((s.inject f sumOf).withResult (s.checksumFor f sumOf).toNat).complete

/-- `CK.IP` (R135). -/
def execCkIp (s : State) : Host.Outcome State Fault Refusal := .next (s.injectCommand 24 State.ipSum)

/-- `CK.ICMP` (R136). -/
def execCkIcmp (s : State) : Host.Outcome State Fault Refusal :=
  .next <|
    match s.l4Fault 4 with
    | some f => s.raise f
    | none => s.injectCommand (s.l4Base + 2) State.icmpSum

/-- `CK.UDP` (R137): the pseudo-header protocol is 17 whatever `PB[23]` holds. -/
def execCkUdp (s : State) : Host.Outcome State Fault Refusal :=
  .next <|
    match s.l4Fault 8 with
    | some f => s.raise f
    | none => s.injectCommand (s.l4Base + 6) (fun t => t.l4Sum protoUdp)

/-- `CK.TCP` (R138): the pseudo-header protocol is 6. -/
def execCkTcp (s : State) : Host.Outcome State Fault Refusal :=
  .next <|
    match s.l4Fault 20 with
    | some f => s.raise f
    | none => s.injectCommand (s.l4Base + 16) (fun t => t.l4Sum protoTcp)

end Sys2Proof.Machine
end

