-- ==== Sys2Proof/Machine/Builders.lean ====
section
/-! DEFINITION. The Message Builders (42_builders.md R180 to R186): checks first, then the writes in the
order of the rule, then the checksums, then `Transmit` (R181). -/

namespace Sys2Proof.Machine

/-- The body of `BuildArpReply` (R182): the request's sender becomes the reply's destination and target. -/
def State.arpReplyFrame (s : State) : State :=
  s.memWrites
    [(0, 6, s.memRead 22 6), (6, 6, s.localMac.toNat),
     (20, 2, arpReply), (22, 6, s.localMac.toNat), (28, 4, s.localIp.toNat),
     (32, 6, s.memRead 22 6), (38, 4, s.memRead 28 4)]

/-- `BuildArpReply` (R182). -/
def execBuildArpReply (s : State) : Host.Outcome State Fault Refusal := .next (s.arpReplyFrame.transmit 42)

/-- The body of `BuildArpRequest` (R183): every one of the 42 bytes is written. -/
def State.arpRequestFrame (s : State) (ip : BitVec 32) : State :=
  s.memWrites
    [(0, 6, 0xFFFFFFFFFFFF), (6, 6, s.localMac.toNat), (12, 2, typeArp),
     (14, 2, 0x0001), (16, 2, 0x0800), (18, 1, 6), (19, 1, 4), (20, 2, arpRequest),
     (22, 6, s.localMac.toNat), (28, 4, s.localIp.toNat), (32, 6, 0), (38, 4, ip.toNat)]

/-- `BuildArpRequest` as the state machine performs it too (R183, 44_fsm.md R233). -/
def State.sendArpRequest (s : State) (ip : BitVec 32) : State := (s.arpRequestFrame ip).transmit 42

/-- `BuildArpRequest ip` (R183). -/
def execBuildArpRequest (ip : BitVec 32) (s : State) : Host.Outcome State Fault Refusal :=
  .next (s.sendArpRequest ip)

/-- `SwapEth()` (R184). -/
def State.swapEth (s : State) : State := s.memWrites [(0, 6, s.memRead 6 6), (6, 6, s.memRead 0 6)]

/-- `SwapIp()` (R184). -/
def State.swapIp (s : State) : State := s.memWrites [(26, 4, s.memRead 30 4), (30, 4, s.memRead 26 4)]

/-- The body of `BuildIcmpEchoReply` (R184), up to `Transmit`. -/
def State.icmpReplyFrame (s : State) : State :=
  (s.swapEth.swapIp.memWrite s.swapEth.swapIp.l4Base 1 0).injectIcmp

/-- `BuildIcmpEchoReply` (R184). The second `BOUNDS` check is R65 and R288 on the length the command
transmits: only with `Ihl() = 0`, where the checksum field lies on the total length, can it differ from
the one checked first (log 9). -/
def execBuildIcmpEchoReply (s : State) : Host.Outcome State Fault Refusal :=
  .next <|
    match s.l4Fault 4 with
    | some f => s.raise f
    | none =>
      if 14 + s.icmpReplyFrame.ipTotLen > Config.pbCap then s.raise .bounds
      else s.icmpReplyFrame.transmit (14 + s.icmpReplyFrame.ipTotLen)

/-- The header writes of `BuildUdpReply` (R185): addresses exchanged, ports exchanged, UDP length. `u` is
`L4Base()` as the command found it, `n` the payload's length. -/
def State.udpReplyPorts (s : State) (u n : Nat) : State :=
  s.swapEth.swapIp.memWrites
    [(u, 2, s.swapEth.swapIp.memRead (u + 2) 2), (u + 2, 2, s.swapEth.swapIp.memRead u 2), (u + 4, 2, 8 + n)]

/-- The IPv4 header of the reply (R185): the total length, then `InjectIp()`. -/
def State.udpReplyHeader (s : State) (u n : Nat) : State :=
  ((s.udpReplyPorts u n).memWrite 16 2 ((s.udpReplyPorts u n).ihl + 8 + n)).injectIp

/-- The reply with its payload, before `InjectUdp()` (R185). -/
def State.udpReplyPayload (s : State) (u n : Nat) : State :=
  (s.udpReplyHeader u n).pbStore (u + 8) (s.psbBytes 0 n)

/-- `BuildUdpReply` (R185). The second `BOUNDS` check is R65 and R288 on what `InjectUdp()` sums: only with
`Ihl() = 0`, where the ports lie on the header length and the total length, can it differ from the one
checked first (log 9). -/
def execBuildUdpReply (s : State) : Host.Outcome State Fault Refusal :=
  .next <|
    if s.l4Base + 8 + s.psbLen.toNat > Config.pbCap then s.raise .bounds
    else if (s.udpReplyPayload s.l4Base s.psbLen.toNat).l4Base
        + (s.udpReplyPayload s.l4Base s.psbLen.toNat).l4Len > Config.pbCap then s.raise .bounds
    else (s.udpReplyPayload s.l4Base s.psbLen.toNat).injectUdp.transmit (s.l4Base + 8 + s.psbLen.toNat)

/-- The TCP header length in bytes (R186): 24 with the option of a SYN, 20 otherwise. -/
def tcpHeaderLength (f : Nat) : Nat := if f = flagSyn then 24 else 20

/-- The payload length (R186): only PUSH-ACK carries the payload. -/
def State.tcpPayloadLength (s : State) (f : Nat) : Nat := if f = flagPushAck then s.psbLen.toNat else 0

/-- The Ethernet and IPv4 headers of `BuildTcpSegment` (R186). -/
def State.tcpIpHeader (s : State) (f : Nat) : State :=
  s.memWrites
    [(0, 6, s.ctxDstMac.toNat), (6, 6, s.ctxSrcMac.toNat), (12, 2, typeIpv4),
     (14, 1, 0x45), (15, 1, 0x00), (16, 2, 20 + tcpHeaderLength f + s.tcpPayloadLength f),
     (18, 2, s.ipId.toNat), (20, 2, 0x0000), (22, 1, s.params.ipTtl.toNat), (23, 1, protoTcp), (24, 2, 0),
     (26, 4, s.ctxSrcIp.toNat), (30, 4, s.ctxDstIp.toNat)]

/-- The TCP header of `BuildTcpSegment` (R186); a SYN carries zero numbers and the MSS option. -/
def State.tcpHeader (s : State) (f : Nat) : State :=
  (s.tcpIpHeader f).memWrites
    ([(34, 2, s.ctxSrcPort.toNat), (36, 2, s.ctxDstPort.toNat),
      (38, 4, if f = flagSyn then 0 else s.tcpSeq.toNat), (42, 4, if f = flagSyn then 0 else s.tcpAck.toNat),
      (46, 2, tcpHeaderLength f / 4 * 4096 + f), (48, 2, s.params.tcpWindow.toNat), (50, 2, 0), (52, 2, 0)]
      ++ if f = flagSyn then [(54, 4, Config.mssOption)] else [])

/-- The whole segment of `BuildTcpSegment` (R186), checksums injected. -/
def State.tcpFrame (s : State) (f : Nat) : State :=
  ((s.tcpHeader f).pbStore (34 + tcpHeaderLength f)
    (s.psbBytes 0 (s.tcpPayloadLength f))).injectIp.injectTcp

/-- `BuildTcpSegment` for an accepted flag field, as the state machine performs it too (R186, 44_fsm.md
R235, R237). -/
def State.sendTcpSegment (s : State) (f : Nat) : State :=
  (s.tcpFrame f).transmit (14 + 20 + tcpHeaderLength f + s.tcpPayloadLength f)

/-- `BuildTcpSegment flags` (R186). -/
def execBuildTcpSegment (flags : BitVec 16) (s : State) : Host.Outcome State Fault Refusal :=
  .next <| if flags.toNat ∈ acceptedTcpFlags then s.sendTcpSegment flags.toNat else s.raise .badOperand

end Sys2Proof.Machine
end

