-- ==== Sys2Proof/Machine/Classifier.lean ====
section
/-! DEFINITION. The Frame Classifier's fourteen commands (41_classifier.md R150 to R166). -/

namespace Sys2Proof.Machine

/-- `IpOk()` (R151), the document's IsIp contract. -/
def State.ipOk (s : State) : Bool := decide (s.ethType = typeIpv4) && decide (fold s.ipSum = 0)

/-- `MacLocal()` (R151). -/
def State.macLocal (s : State) : Bool := decide (s.memRead 0 6 = s.localMac.toNat)

/-- `LenOk(m)` (R151). -/
def State.lenOk (s : State) (m : Nat) : Bool :=
  decide (s.ipTotLen ≥ s.ihl) && decide (s.l4Len ≥ m) && decide (14 + s.ipTotLen ≤ Config.pbCap)

/-- An ARP message for this node with a given operation (R154, R155). -/
def State.arpFor (s : State) (operation : Nat) : Bool :=
  decide (s.ethType = typeArp) && decide (s.memRead 38 4 = s.localIp.toNat)
    && decide (s.memRead 20 2 = operation)

/-- A segment of protocol 6 for this node's hardware address whose 12-bit flag field is one of `values`
(R159 to R161): equality on the whole field. -/
def State.tcpWithFlags (s : State) (values : List Nat) : Bool :=
  decide (s.ipProto = protoTcp) && s.macLocal && decide (s.tcpFlags ∈ values)

/-- An MQTT packet of a given first byte for this node's hardware address (R162 to R165). -/
def State.mqttType (s : State) (first : Nat) : Bool :=
  s.macLocal && decide (s.memRead s.mqBase 1 = first)

/-- The fourteen predicates `P` (R152 to R165). -/
def State.isIp (s : State) : Bool := s.ipOk
def State.isIpUnicast (s : State) : Bool := s.ipOk && decide (s.memRead 30 4 = s.localIp.toNat)
def State.isArpRequest (s : State) : Bool := s.arpFor arpRequest
def State.isArpReply (s : State) : Bool := s.arpFor arpReply
def State.isPingRequest (s : State) : Bool :=
  s.ipOk && decide (s.ipProto = protoIcmp) && decide (s.memRead s.l4Base 1 = 8)
def State.isUdp (s : State) : Bool :=
  s.ipOk && decide (s.ipProto = protoUdp) && s.lenOk 8 && decide (fold (s.l4Sum protoUdp) = 0)
def State.isTcp (s : State) : Bool := decide (s.ipProto = protoTcp)
def State.isTcpAck (s : State) : Bool := s.tcpWithFlags [flagSynAck, flagAck, flagPushAck]
def State.isTcpFinAck (s : State) : Bool := s.tcpWithFlags [flagFinAck]
def State.isTcpResetAck (s : State) : Bool := s.tcpWithFlags [flagRstAck]
def State.isMqttConnectAck (s : State) : Bool :=
  s.mqttType 0x20 && decide (s.memRead (s.mqBase + 2) 1 = 0)
def State.isMqttSubAck (s : State) : Bool := s.mqttType 0x90
def State.isMqttUnSubAck (s : State) : Bool := s.mqttType 0xB0
def State.isMqttPublish (s : State) : Bool := s.mqttType 0x30

/-- The common behaviour of a classifier (R150): `MATCH <- P`, `ERR <- OK`, and nothing else. -/
def State.classify (s : State) (p : Bool) : State := (s.withMatch p).complete

/-- The one sanctioned side effect (R166): on a match, `MQ_LEN` and `RESULT` take the remaining-length
byte of the MQTT packet. -/
def State.recordLength (s : State) (p : Bool) : State :=
  if p then
    { s.withResult (s.pbAt (s.mqBase + 1)).toNat with mqLen := s.pbAt (s.mqBase + 1) }
  else s

/-- `IsIp` (R152). -/
def execIsIp (s : State) : Host.Outcome State Fault Refusal := .next (s.classify s.isIp)

/-- `IsIpUnicast` (R153). -/
def execIsIpUnicast (s : State) : Host.Outcome State Fault Refusal := .next (s.classify s.isIpUnicast)

/-- `IsArpRequest` (R154). -/
def execIsArpRequest (s : State) : Host.Outcome State Fault Refusal := .next (s.classify s.isArpRequest)

/-- `IsArpReply` (R155). -/
def execIsArpReply (s : State) : Host.Outcome State Fault Refusal := .next (s.classify s.isArpReply)

/-- `IsPingRequest` (R156). -/
def execIsPingRequest (s : State) : Host.Outcome State Fault Refusal := .next (s.classify s.isPingRequest)

/-- `IsUdp` (R157). -/
def execIsUdp (s : State) : Host.Outcome State Fault Refusal := .next (s.classify s.isUdp)

/-- `IsTcp` (R158). -/
def execIsTcp (s : State) : Host.Outcome State Fault Refusal := .next (s.classify s.isTcp)

/-- `IsTcpAck` (R159). -/
def execIsTcpAck (s : State) : Host.Outcome State Fault Refusal := .next (s.classify s.isTcpAck)

/-- `IsTcpFinAck` (R160). -/
def execIsTcpFinAck (s : State) : Host.Outcome State Fault Refusal := .next (s.classify s.isTcpFinAck)

/-- `IsTcpResetAck` (R161). -/
def execIsTcpResetAck (s : State) : Host.Outcome State Fault Refusal := .next (s.classify s.isTcpResetAck)

/-- `IsMqttConnectAck` (R162). -/
def execIsMqttConnectAck (s : State) : Host.Outcome State Fault Refusal := .next (s.classify s.isMqttConnectAck)

/-- `IsMqttSubAck` (R163). -/
def execIsMqttSubAck (s : State) : Host.Outcome State Fault Refusal := .next ((s.recordLength s.isMqttSubAck).classify s.isMqttSubAck)

/-- `IsMqttUnSubAck` (R164). -/
def execIsMqttUnSubAck (s : State) : Host.Outcome State Fault Refusal := .next ((s.recordLength s.isMqttUnSubAck).classify s.isMqttUnSubAck)

/-- `IsMqttPublish` (R165). -/
def execIsMqttPublish (s : State) : Host.Outcome State Fault Refusal := .next ((s.recordLength s.isMqttPublish).classify s.isMqttPublish)

end Sys2Proof.Machine
end

