-- ==== Sys2Proof/Machine/System.lean ====
section
/-! DEFINITION. Register access, driver-facing commands and buffer access (45_system.md R250 to R259). -/

namespace Sys2Proof.Machine

/-- `RD reg` (R250): the value is read before the command's own `ERR` write. -/
def execRd (reg : Byte) (s : State) : Host.Outcome State Fault Refusal :=
  .next <|
    match readableReg reg with
    | none => s.raise .badOperand
    | some r => (s.withResult (s.readReg r)).complete

/-- `WR reg, val` (R251). -/
def execWr (reg : Byte) (val : BitVec 48) (s : State) : Host.Outcome State Fault Refusal :=
  .next <|
    match writableReg reg with
    | none => s.raise .badOperand
    | some r => (s.writeReg r val).complete

/-- `IPVALID reg` (R252): "not all four octets are zero". -/
def execIpvalid (reg : Byte) (s : State) : Host.Outcome State Fault Refusal :=
  .next <|
    match addressReg reg with
    | none => s.raise .badOperand
    | some r => (s.withMatch (decide (s.readReg r ≠ 0))).complete

/-- Filling the connection context (R253): five registers; `CTX_SRC_PORT` stays. -/
def State.loadContext (s : State) : State :=
  { s with
    ctxSrcMac := s.localMac
    ctxDstMac := s.brokerMac
    ctxSrcIp := s.localIp
    ctxDstIp := s.brokerIp
    ctxDstPort := BitVec.ofNat 16 Config.mqttPort }

/-- `CTX.LOAD` (R253). -/
def execCtxLoad (s : State) : Host.Outcome State Fault Refusal := .next s.loadContext.complete

/-- `RX.LOAD len, data` (R254): bytes at `len` and above keep their old values. -/
def execRxLoad (data : List Byte) (s : State) : Host.Outcome State Fault Refusal :=
  .next <|
    if data.length > Config.pbCap then s.raise .badOperand
    else { s.pbStore 0 data with rxLen := BitVec.ofNat 16 data.length }.complete

/-- `RX.OVF` (R255, 60_exceptions.md R292). -/
def execRxOvf (s : State) : Host.Outcome State Fault Refusal := .next s.pollOverflow.complete

/-- `PB.RD off` (R256). -/
def execPbRd (off : BitVec 16) (s : State) : Host.Outcome State Fault Refusal :=
  .next <|
    if off.toNat ≥ Config.pbCap then s.raise .bounds
    else (s.withResult (s.pbAt off.toNat).toNat).complete

/-- `PB.WR off, byte` (R257). -/
def execPbWr (off : BitVec 16) (byte : Byte) (s : State) : Host.Outcome State Fault Refusal :=
  .next <|
    if off.toNat ≥ Config.pbCap then s.raise .bounds
    else (s.pbStore off.toNat [byte]).complete

/-- `PSB.LOAD len, data` (R258): `RESULT` is not written. -/
def execPsbLoad (data : List Byte) (s : State) : Host.Outcome State Fault Refusal :=
  .next <|
    if data.length > Config.psbCap then s.raise .badOperand
    else { s.psbStore 0 data with psbLen := BitVec.ofNat 16 data.length }.complete

/-- `PSB.RD off` (R259). -/
def execPsbRd (off : BitVec 16) (s : State) : Host.Outcome State Fault Refusal :=
  .next <|
    if off.toNat ≥ Config.psbCap then s.raise .bounds
    else (s.withResult (s.psbAt off.toNat).toNat).complete

end Sys2Proof.Machine
end

