-- ==== Sys2Proof/Machine/Fsm.lean ====
section
/-! DEFINITION. The Connection State Machine (44_fsm.md R230 to R238). -/

namespace Sys2Proof.Machine

/-- A transition taken: the new state, and `MATCH <- 1` (R230, R232). -/
def State.advance (s : State) (target : FsmState) : State := { s with fsm := target }.withMatch true

/-- No transition (R232, R238): `MATCH <- 0`, `ERR <- OK`. -/
def State.stay (s : State) : State := (s.withMatch false).complete

/-- `FSM.CONNECT` (R231): a trigger in `Idle` only. -/
def execFsmConnect (s : State) : Host.Outcome State Fault Refusal :=
  .next <| if s.fsm = .idle then (s.advance .sendArpRequest).complete else s.stay

/-- Arm `SendArpRequest` (R233): the state advances whatever the driver answered. -/
def State.armSendArpRequest (s : State) : State := (s.sendArpRequest s.brokerIp).advance .waitArpResponse

/-- Arm `WaitArpResponse` (R234). -/
def State.armWaitArpResponse (s : State) : State :=
  if s.isArpReply then
    ({ s with brokerMac := BitVec.ofNat 48 (s.memRead 22 6) }.advance .sendTcpSyn).complete
  else s.stay

/-- Arm `SendTcpSyn` (R235). -/
def State.armSendTcpSyn (s : State) : State :=
  (s.loadContext.complete.sendTcpSegment flagSyn).advance .waitTcpSynAck

/-- Arm `WaitTcpSynAck` (R236): `IsIp` and `IsTcpAck`; the peer's numbers as they stand. -/
def State.armWaitTcpSynAck (s : State) : State :=
  if s.ipOk && s.isTcpAck then
    ({ s with
        tcpAck := BitVec.ofNat 32 (s.memRead (s.l4Base + 4) 4)
        tcpSeq := BitVec.ofNat 32 (s.memRead (s.l4Base + 8) 4) }.advance .sendTcpAck).complete
  else s.stay

/-- Arm `SendTcpAck` (R237). -/
def State.armSendTcpAck (s : State) : State :=
  (s.loadContext.complete.sendTcpSegment flagAck).advance .tcpConnectionActive

/-- `FSM.STEP` (R232): the row of the table that `FSM_STATE` selects. -/
def execFsmStep (s : State) : Host.Outcome State Fault Refusal :=
  .next <|
    match s.fsm with
    | .idle => s.stay
    | .sendArpRequest => s.armSendArpRequest
    | .waitArpResponse => s.armWaitArpResponse
    | .sendTcpSyn => s.armSendTcpSyn
    | .waitTcpSynAck => s.armWaitTcpSynAck
    | .sendTcpAck => s.armSendTcpAck
    | .tcpConnectionActive => s.stay

end Sys2Proof.Machine
end

