-- ==== Sys2Proof/Machine/Mqtt.lean ====
section
/-! DEFINITION. The MQTT payload constructors (43_mqtt_payload.md R210 to R215). -/

namespace Sys2Proof.Machine

/-- The common behaviour of a constructor that produces `bs` (R210). -/
def State.construct (s : State) (bs : List Byte) : State :=
  ({ s.psbStore 0 bs with psbLen := BitVec.ofNat 16 bs.length }.withResult bs.length).complete

/-- A constructor whose remaining length is `rl` (R210): above 127 it faults before any write. -/
def State.constructWithin (s : State) (rl : Nat) (bs : List Byte) : State :=
  if rl > 127 then s.raise .badOperand else s.construct bs

/-- The 17 bytes of the CONNECT packet (R211). -/
def connectPacket (p : Params) : List Byte :=
  [0x10, 0x0F, 0x00, 0x04, 0x4D, 0x51, 0x54, 0x54, 0x04, 0x02, 0x00, 0x3C, 0x00, 0x03,
   p.clientId0, p.clientId1, p.clientId2]

/-- The SUBSCRIBE or UNSUBSCRIBE packet (R212, R213): packet identifier 0x000C, topic length, topic, and the
terminating byte the length field does not count. -/
def topicPacket (first : Byte) (topic : List Byte) : List Byte :=
  [first, BitVec.ofNat 8 (topic.length + 5), 0x00, 0x0C] ++ beBytes 2 topic.length ++ topic ++ [0x00]

/-- The PUBLISH packet (R214): the data follows the topic directly. -/
def publishPacket (topic data : List Byte) : List Byte :=
  [0x30, BitVec.ofNat 8 (2 + topic.length + data.length)] ++ beBytes 2 topic.length ++ topic ++ data

/-- `MQ.CONNECT` (R211). -/
def execMqConnect (s : State) : Host.Outcome State Fault Refusal := .next (s.construct (connectPacket s.params))

/-- `MQ.SUBSCRIBE topic` (R212). -/
def execMqSubscribe (topic : List Byte) (s : State) : Host.Outcome State Fault Refusal :=
  .next (s.constructWithin (topic.length + 5) (topicPacket 0x82 topic))

/-- `MQ.UNSUBSCRIBE topic` (R213). -/
def execMqUnsubscribe (topic : List Byte) (s : State) : Host.Outcome State Fault Refusal :=
  .next (s.constructWithin (topic.length + 5) (topicPacket 0xA2 topic))

/-- `MQ.PUBLISH topic, data` (R214). -/
def execMqPublish (topic data : List Byte) (s : State) : Host.Outcome State Fault Refusal :=
  .next (s.constructWithin (2 + topic.length + data.length) (publishPacket topic data))

/-- `MQ.DISCONNECT` (R215). -/
def execMqDisconnect (s : State) : Host.Outcome State Fault Refusal := .next (s.construct [0xE0, 0x00])

end Sys2Proof.Machine
end

