-- ==== Sys2Proof/Machine/Dispatch.lean ====
section
/-! DEFINITION. One arm for each command of the opcode map (30_encoding.md R105). -/

namespace Sys2Proof.Machine

/-- What a command does. -/
def exec (i : Instr) (s : State) : Host.Outcome State Fault Refusal :=
  match i with
  | .rd reg => Sys2Proof.Machine.execRd reg s
  | .wr reg val => Sys2Proof.Machine.execWr reg val s
  | .ipvalid reg => Sys2Proof.Machine.execIpvalid reg s
  | .ctxLoad => Sys2Proof.Machine.execCtxLoad s
  | .rxLoad data => Sys2Proof.Machine.execRxLoad data s
  | .rxOvf => Sys2Proof.Machine.execRxOvf s
  | .pbRd off => Sys2Proof.Machine.execPbRd off s
  | .pbWr off byte => Sys2Proof.Machine.execPbWr off byte s
  | .psbLoad data => Sys2Proof.Machine.execPsbLoad data s
  | .psbRd off => Sys2Proof.Machine.execPsbRd off s
  | .acc off cnt => Sys2Proof.Machine.execAcc off cnt s
  | .fold => Sys2Proof.Machine.execFold s
  | .ckIp => Sys2Proof.Machine.execCkIp s
  | .ckIcmp => Sys2Proof.Machine.execCkIcmp s
  | .ckUdp => Sys2Proof.Machine.execCkUdp s
  | .ckTcp => Sys2Proof.Machine.execCkTcp s
  | .isIp => Sys2Proof.Machine.execIsIp s
  | .isIpUnicast => Sys2Proof.Machine.execIsIpUnicast s
  | .isArpRequest => Sys2Proof.Machine.execIsArpRequest s
  | .isArpReply => Sys2Proof.Machine.execIsArpReply s
  | .isPingRequest => Sys2Proof.Machine.execIsPingRequest s
  | .isUdp => Sys2Proof.Machine.execIsUdp s
  | .isTcp => Sys2Proof.Machine.execIsTcp s
  | .isTcpAck => Sys2Proof.Machine.execIsTcpAck s
  | .isTcpFinAck => Sys2Proof.Machine.execIsTcpFinAck s
  | .isTcpResetAck => Sys2Proof.Machine.execIsTcpResetAck s
  | .isMqttConnectAck => Sys2Proof.Machine.execIsMqttConnectAck s
  | .isMqttSubAck => Sys2Proof.Machine.execIsMqttSubAck s
  | .isMqttUnSubAck => Sys2Proof.Machine.execIsMqttUnSubAck s
  | .isMqttPublish => Sys2Proof.Machine.execIsMqttPublish s
  | .buildArpReply => Sys2Proof.Machine.execBuildArpReply s
  | .buildArpRequest ip => Sys2Proof.Machine.execBuildArpRequest ip s
  | .buildIcmpEchoReply => Sys2Proof.Machine.execBuildIcmpEchoReply s
  | .buildUdpReply => Sys2Proof.Machine.execBuildUdpReply s
  | .buildTcpSegment flags => Sys2Proof.Machine.execBuildTcpSegment flags s
  | .mqConnect => Sys2Proof.Machine.execMqConnect s
  | .mqSubscribe topic => Sys2Proof.Machine.execMqSubscribe topic s
  | .mqUnsubscribe topic => Sys2Proof.Machine.execMqUnsubscribe topic s
  | .mqPublish topic data => Sys2Proof.Machine.execMqPublish topic data s
  | .mqDisconnect => Sys2Proof.Machine.execMqDisconnect s
  | .fsmConnect => Sys2Proof.Machine.execFsmConnect s
  | .fsmStep => Sys2Proof.Machine.execFsmStep s

end Sys2Proof.Machine
end

