-- ==== Sys2Proof/Machine/Step.lean ====
section
/-! DEFINITION. One step of the machine: the host's next transaction, whole (20_memory.md R66, R79;
30_encoding.md R100). -/

namespace Sys2Proof.Machine

/-- The response record follows every command that has finished (R101, 60_exceptions.md R283, R284). -/
def respondTo : Host.Outcome State Fault Refusal → Host.Outcome State Fault Refusal
  | .next t => .next t.respond
  | .fault r => .fault r
  | .refused r => .refused r

/-- One command byte string (R104): decoded and executed, or faulted by the decoder (R286, R287). -/
def runCommand (bytes : List Byte) (s : State) : Host.Outcome State Fault Refusal :=
  match decode bytes with
  | .command i => respondTo (exec i s)
  | .illegalOpcode => respondTo (.next (s.raise .illegalOpcode))
  | .badOperand => respondTo (.next (s.raise .badOperand))

/-- One step: nothing while the host has issued nothing (R305), the reset input (R310), or one command run
to completion (R79). -/
def step (s : State) : Host.Outcome State Fault Refusal :=
  match s.takeInput with
  | .nothing => .next s
  | .reset rest => .next rest.applyReset
  | .command bytes rest => runCommand bytes rest

/-- `s` with the command of an opcode-table word as the next thing the host issues (log 6). -/
def State.withFetchWord (s : State) (nbits w : Nat) : State :=
  { s with inbox := .command (tableCommand nbits w) :: s.inbox }

end Sys2Proof.Machine
end

