-- ==== Sys2Proof/Safety.lean ====
section
/-! DEFINITION. The terms the statements use: what a command keeps (its frame), what a transmit leaves, the
exact word sum of a region, and the invariant of the machine. -/

namespace Sys2Proof.Machine

/-! ### Frames -/

/-- Every register but those listed reads as before. `FLAGS` counts as one register here: where it is
listed, the statement says what each of its bits becomes. -/
def RegsKept (changed : List Reg) (s t : State) : Prop := ∀ r, r ∉ changed → t.readReg r = s.readReg r

/-- Every byte of `PB` reads as before. -/
def PbKept (s t : State) : Prop := ∀ k, t.pbAt k = s.pbAt k

/-- Every byte of `PB` outside the `n` bytes from offset `a` reads as before. -/
def PbKeptOutside (a n : Nat) (s t : State) : Prop := ∀ k, k < a ∨ a + n ≤ k → t.pbAt k = s.pbAt k

/-- Every byte of `PSB` reads as before. -/
def PsbKept (s t : State) : Prop := ∀ k, t.psbAt k = s.psbAt k

/-- Nothing came in and nothing went out: the model's own fields are as before. -/
structure PortsKept (s t : State) : Prop where
  params : t.params = s.params
  inbox : t.inbox = s.inbox
  txAnswers : t.txAnswers = s.txAnswers
  ovfAnswers : t.ovfAnswers = s.ovfAnswers
  draws : t.draws = s.draws
  epoch : t.epoch = s.epoch
  txLog : t.txLog = s.txLog
  responses : t.responses = s.responses

/-- Only the listed registers may have changed: no byte of a buffer, no port. -/
structure OnlyRegs (changed : List Reg) (s t : State) : Prop where
  regs : RegsKept changed s t
  pb : PbKept s t
  psb : PsbKept s t
  ports : PortsKept s t

/-- The precise fault `f` (60_exceptions.md R283): `ERR` has the code, `FLT` is set, and everything else is
as before the command. -/
structure Faulted (f : CmdFault) (s t : State) : Prop where
  err : t.err = .fault f
  flags : t.flags = { s.flags with flt := true }
  rest : OnlyRegs [.err, .flags] s t

/-- One `Transmit(n)` and no other port activity (42_builders.md R180, R181): the frame `PB[0 .. n-1]` as it
stands afterwards is logged with the driver's answer, `TXOK` and `ERR` report that answer, the other three
flags, `PSB` and every register that is not listed keep their values. -/
structure Sent (n : Nat) (changed : List Reg) (s t : State) : Prop where
  log : t.txLog = s.txLog ++ [⟨t.pbBytes 0 n, s.nextTxAnswer⟩]
  txok : t.flags.txok = s.nextTxAnswer
  err : t.err = if s.nextTxAnswer then .ok else .txAbort
  txAnswers : t.txAnswers = s.txAnswers.tail
  draws : t.draws = s.draws + 1
  matched : t.flags.matched = s.flags.matched
  ovf : t.flags.ovf = s.flags.ovf
  flt : t.flags.flt = s.flags.flt
  regs : RegsKept (.flags :: .err :: changed) s t
  psb : PsbKept s t
  params : t.params = s.params
  inbox : t.inbox = s.inbox
  ovfAnswers : t.ovfAnswers = s.ovfAnswers
  epoch : t.epoch = s.epoch
  responses : t.responses = s.responses

/-! ### Exact arithmetic -/

/-- The sum, as an integer, of the big-endian 16-bit words of the `n` bytes from offset `a`, an odd last
byte in the high position (40_checksum.md R130 without the 32-bit wrap). -/
def exactWordSum (rd : Nat → Byte) (a n : Nat) : Nat :=
  ((List.range (n / 2)).map (fun k => (rd (a + 2 * k)).toNat * 256 + (rd (a + 2 * k + 1)).toNat)).sum
    + if n % 2 = 1 then (rd (a + n - 1)).toNat * 256 else 0

/-! ### The invariant -/

/-- The bounds of the spec that every state keeps (10_state.md R39, R40, R42, R43; 20_memory.md R65): the
buffers in canonical form and inside their capacities, the recorded lengths inside the buffers. -/
structure State.Bounded (s : State) : Prop where
  pbWf : Memory.wf s.pb = true
  pbWithin : Memory.within Config.pbCap s.pb = true
  psbWf : Memory.wf s.psb = true
  psbWithin : Memory.within Config.psbCap s.psb = true
  rxLenLe : s.rxLen.toNat ≤ Config.pbCap
  psbLenLe : s.psbLen.toNat ≤ Config.psbCap

/-- What the status registers tell about each other (60_exceptions.md R283, R290): a fault code in `ERR`
comes with `FLT`, `TX_ABORT` comes with `TXOK = 0`. -/
structure State.StatusConsistent (s : State) : Prop where
  faultSetsFlt : ∀ f, s.err = .fault f → s.flags.flt = true
  abortClearsTxok : s.err = .txAbort → s.flags.txok = false

/-- Every frame handed to the driver has between 1 and 1522 bytes (42_builders.md R180). -/
def State.FramesLegal (s : State) : Prop :=
  ∀ r ∈ s.txLog, 1 ≤ r.frame.length ∧ r.frame.length ≤ Config.pbCap

/-- The invariant of the machine. -/
structure State.Inv (s : State) : Prop where
  bounded : s.Bounded
  status : s.StatusConsistent
  frames : s.FramesLegal

end Sys2Proof.Machine
end

