-- ==== Sys2Proof/Certificates/Slice0/Obligations.lean ====
section
/-! DEFINITION. The statements for the provers. Each docstring names the rules of spec/ it formalises. -/

open Sys2Proof Sys2Proof.Machine

/-! ### Words the statements share -/

/-- Six bytes of `PB` as a hardware address, the first the most significant (00_scope.md R9). -/
def macAt (s : State) (a : Nat) : BitVec 48 :=
  s.pbAt a ++ s.pbAt (a + 1) ++ s.pbAt (a + 2) ++ s.pbAt (a + 3) ++ s.pbAt (a + 4) ++ s.pbAt (a + 5)

/-- Four bytes of `PB` as a 32-bit number, the first the most significant (00_scope.md R9). -/
def longAt (s : State) (a : Nat) : BitVec 32 :=
  s.pbAt a ++ s.pbAt (a + 1) ++ s.pbAt (a + 2) ++ s.pbAt (a + 3)

/-- Two bytes of `PB` as a 16-bit number. -/
def shortAt (s : State) (a : Nat) : BitVec 16 := s.pbAt a ++ s.pbAt (a + 1)

/-- Bytes 12 and 13 are 08 00 and the exact word sum of the measured header is a positive multiple of
0xFFFF, which is when its fold is zero (41_classifier.md R151). -/
def ipHeaderValid (s : State) : Prop :=
  shortAt s 12 = 0x0800#16
    ∧ 0 < exactWordSum s.pbAt 14 ((s.pbAt 14).toNat % 16 * 4)
    ∧ exactWordSum s.pbAt 14 ((s.pbAt 14).toNat % 16 * 4) % 65535 = 0

/-- The offset behind the IPv4 header, from the header-length nibble (20_memory.md R77). -/
def payloadOffset (s : State) : Nat := 14 + (s.pbAt 14).toNat % 16 * 4

/-- The 12-bit TCP flag field (20_memory.md R73, R77). -/
def flagField (s : State) : BitVec 12 := (shortAt s (payloadOffset s + 12)).setWidth 12

/-- The offset of the first data byte of the TCP segment (20_memory.md R77). -/
def mqttOffset (s : State) : Nat := payloadOffset s + (s.pbAt (payloadOffset s + 12)).toNat / 16 * 4

/-- The frame's destination hardware address is this node's (41_classifier.md R151). -/
def forThisNode (s : State) : Prop := macAt s 0 = s.localMac

/-- A classifier command: it completes with `ERR = OK`, its answer in `MATCH`, and changes nothing else
(41_classifier.md R150). -/
def Answers (i : Instr) (s : State) (p : Prop) : Prop :=
  ∃ t, exec i s = .next t ∧ t.err = .ok ∧ (t.flags.matched = true ↔ p)
    ∧ t.flags = { s.flags with matched := t.flags.matched } ∧ OnlyRegs [.flags, .err] s t

/-- A classifier command that records a length on a match (41_classifier.md R166). -/
def AnswersWithLength (i : Instr) (s : State) (p : Prop) : Prop :=
  ∃ t, exec i s = .next t ∧ t.err = .ok ∧ (t.flags.matched = true ↔ p)
    ∧ t.flags = { s.flags with matched := t.flags.matched }
    ∧ (p → t.mqLen = s.pbAt (mqttOffset s + 1) ∧ t.result = (s.pbAt (mqttOffset s + 1)).setWidth 48)
    ∧ (¬ p → t.mqLen = s.mqLen ∧ t.result = s.result)
    ∧ OnlyRegs [.flags, .err, .mqLen, .result] s t

/-- What the decoder's fault `f` leaves (60_exceptions.md R283): the code, `FLT`, the response record, the
command taken from the inbox, and nothing else. -/
def StepFaulted (f : CmdFault) (rest : List HostInput) (s t : State) : Prop :=
  t.err = .fault f ∧ t.flags = { s.flags with flt := true } ∧ RegsKept [.err, .flags] s t
    ∧ PbKept s t ∧ PsbKept s t ∧ t.inbox = rest ∧ t.params = s.params ∧ t.txAnswers = s.txAnswers
    ∧ t.ovfAnswers = s.ovfAnswers ∧ t.draws = s.draws ∧ t.epoch = s.epoch ∧ t.txLog = s.txLog
    ∧ t.responses = s.responses ++ [⟨.fault f, { s.flags with flt := true }, s.result⟩]

/-! ### The machine as a whole -/

/-- R329 (70_reset_and_hazards.md), R280 (60_exceptions.md): no state stops the CORE. -/
def Obligations.EveryStepGoesOn : Prop := ∀ s : State, ∃ t, step s = .next t

/-- A command that decodes is executed whole, on the state without it in the inbox, and its response record
follows (30_encoding.md R100, R101). -/
def Obligations.StepRunsTheDecodedCommand : Prop :=
  ∀ (s u : State) (bytes : List Byte) (rest : List HostInput) (i : Instr),
    s.inbox = .command bytes :: rest → decode bytes = .command i →
    exec i { s with inbox := rest } = .next u →
    step s = .next { u with responses := u.responses ++ [⟨u.err, u.flags, u.result⟩] }

/-- 60_exceptions.md R283, R286, R287 for the decoder's two faults: the code, `FLT`, the response record,
and nothing else. -/
def Obligations.DecoderFaultsArePrecise : Prop :=
  ∀ (s : State) (bytes : List Byte) (rest : List HostInput) (f : CmdFault),
    s.inbox = .command bytes :: rest →
    (decode bytes = .illegalOpcode ∧ f = .illegalOpcode ∨ decode bytes = .badOperand ∧ f = .badOperand) →
    ∃ t, step s = .next t ∧ StepFaulted f rest s t

/-- 60_exceptions.md R305, R310: with nothing issued the CORE holds its state. What an empty inbox means is
the model's (log 6). -/
def Obligations.WaitingCoreHoldsItsState : Prop := ∀ s : State, s.inbox = [] → step s = .next s

/-- 10_state.md R47, 70_reset_and_hazards.md R310: what the spec states of the state after reset. -/
def Obligations.ResetStateHoldsTheStatedValues : Prop :=
  State.reset.readReg .fsmState = 0 ∧ State.reset.readReg .flags = 0 ∧ State.reset.readReg .err = 0
    ∧ State.reset.readReg .result = 0 ∧ State.reset.readReg .rxLen = 0 ∧ State.reset.readReg .psbLen = 0
    ∧ State.reset.readReg .mqLen = 0 ∧ State.reset.txLog = []

/-- 70_reset_and_hazards.md R310, R311: the reset input brings the stated reset values and leaves the
environment's answers alone. That the logs start again is the model's choice (log 7). -/
def Obligations.ResetInputResetsTheCore : Prop :=
  ∀ (s : State) (rest : List HostInput), s.inbox = .reset :: rest →
    ∃ t, step s = .next t
      ∧ t.readReg .fsmState = 0 ∧ t.readReg .flags = 0 ∧ t.readReg .err = 0 ∧ t.readReg .result = 0
      ∧ t.readReg .rxLen = 0 ∧ t.readReg .psbLen = 0 ∧ t.readReg .mqLen = 0
      ∧ t.inbox = rest ∧ t.params = s.params ∧ t.txAnswers = s.txAnswers ∧ t.ovfAnswers = s.ovfAnswers
      ∧ t.draws = s.draws ∧ t.txLog = [] ∧ t.responses = []

/-- The invariant at reset. -/
def Obligations.ResetStateIsWellKept : Prop := State.reset.Inv

/-- Every step, from every state that meets it, keeps the invariant: buffers canonical and within their
capacities (20_memory.md R65), lengths within them (10_state.md R39, R40), status registers consistent
(60_exceptions.md R283, R290), every transmitted frame of 1 to 1522 bytes (42_builders.md R180). -/
def Obligations.EveryStepKeepsTheInvariant : Prop :=
  ∀ s t : State, s.Inv → step s = .next t → t.Inv

/-- 60_exceptions.md R280, R283: every command either completes with `ERR` `OK` or `TX_ABORT` and leaves
`FLT` as it was, or faults precisely. -/
def Obligations.CommandsCompleteOrFaultPrecisely : Prop :=
  ∀ (i : Instr) (s t : State), exec i s = .next t →
    ((t.err = .ok ∨ t.err = .txAbort ∧ t.flags.txok = false) ∧ t.flags.flt = s.flags.flt)
      ∨ ∃ f, Faulted f s t

/-- 10_state.md R32: only `WR` and `FSM.STEP` change registers 0x00 to 0x09; `FSM.STEP` changes
`BROKER_MAC` only while waiting for the ARP reply, `TCP_SEQ` and `TCP_ACK` only while waiting for the
SYN-ACK, and no other of them. -/
def Obligations.ConfigurationChangesOnlyBySetterOrHandshake : Prop :=
  ∀ (i : Instr) (s t : State) (r : Reg), exec i s = .next t → r.number.toNat ≤ 0x09 →
    t.readReg r ≠ s.readReg r →
    (∃ val, i = .wr r.number val)
      ∨ i = .fsmStep ∧ s.fsm = .waitArpResponse ∧ r = .brokerMac
      ∨ i = .fsmStep ∧ s.fsm = .waitTcpSynAck ∧ (r = .tcpSeq ∨ r = .tcpAck)

/-- 44_fsm.md R230: "no state goes back, none is skipped", and the first row needs the CONNECT trigger. -/
def Obligations.FsmMovesOneRowForward : Prop :=
  ∀ (i : Instr) (s t : State), exec i s = .next t → t.fsm ≠ s.fsm →
    (i = .fsmConnect ∧ s.fsm = .idle ∧ t.fsm = .sendArpRequest)
      ∨ (i = .fsmStep ∧ s.fsm ≠ .idle ∧ t.fsm.number.toNat = s.fsm.number.toNat + 1)

/-- 10_state.md R38: no command but `ACC`, `FOLD`, `RD` and `WR` reads or writes `SUM`: run on a state that
differs in `SUM` only, it does the same and leaves the other `SUM`. -/
def Obligations.SumIsPrivateToTheEngineCommands : Prop :=
  ∀ (i : Instr) (s t : State) (x : BitVec 32),
    (∀ off cnt, i ≠ .acc off cnt) → i ≠ .fold → (∀ reg, i ≠ .rd reg) → (∀ reg val, i ≠ .wr reg val) →
    exec i s = .next t → t.sum = s.sum ∧ exec i { s with sum := x } = .next { t with sum := x }

/-- 10_state.md R23, R24, R27, R39: `SUBNET_MASK`, `GATEWAY_IP`, `DHCP_EN` and `RX_LEN` steer nothing: a
command other than `RD`, `WR`, `IPVALID` and `RX.LOAD` does the same whatever they hold, and keeps them. -/
def Obligations.StoredOnlyRegistersSteerNothing : Prop :=
  ∀ (i : Instr) (s t : State) (m g : BitVec 32) (d : BitVec 1) (l : BitVec 16),
    (∀ reg, i ≠ .rd reg) → (∀ reg val, i ≠ .wr reg val) → (∀ reg, i ≠ .ipvalid reg) →
    (∀ data, i ≠ .rxLoad data) → exec i s = .next t →
    exec i { s with subnetMask := m, gatewayIp := g, dhcpEn := d, rxLen := l }
      = .next { t with subnetMask := m, gatewayIp := g, dhcpEn := d, rxLen := l }

/-- 60_exceptions.md R290, 42_builders.md R180: what the driver answers changes `TXOK`, `ERR` and the log,
and no byte of `PB` or `PSB` and no other register. -/
def Obligations.DriverAnswerReachesOnlyTheStatus : Prop :=
  ∀ (i : Instr) (s t u : State) (answers : List Bool), exec i s = .next t →
    exec i { s with txAnswers := answers } = .next u →
    RegsKept [.flags, .err] t u ∧ PbKept t u ∧ PsbKept t u
      ∧ u.flags = { t.flags with txok := u.flags.txok }
      ∧ u.txLog.map TxRecord.frame = t.txLog.map TxRecord.frame

/-! ### Encoding -/

/-- 30_encoding.md R102 to R105: decoding what the encoder writes gives the command back. -/
def Obligations.DecodeOfEncodeIsTheCommand : Prop :=
  ∀ i : Instr, i.wf = true → decode (encode i) = .command i

/-- 30_encoding.md R104, R108: a byte string that decodes to a command is that command's encoding, so no bit
of it is dropped. -/
def Obligations.EncodeOfDecodeIsTheBytes : Prop :=
  ∀ (bytes : List Byte) (i : Instr), decode bytes = .command i → i.wf = true ∧ encode i = bytes

/-- The opcode bytes 30_encoding.md R106 lists as reserved. -/
def reservedOpcode (op : Byte) : Prop :=
  op = 0x00 ∨ 0x0B ≤ op ∧ op ≤ 0x0F ∨ 0x16 ≤ op ∧ op ≤ 0x1F ∨ 0x2E ≤ op ∧ op ≤ 0x2F
    ∨ 0x35 ≤ op ∧ op ≤ 0x3F ∨ 0x45 ≤ op ∧ op ≤ 0x4F ∨ 0x52 ≤ op

/-- 30_encoding.md R106: the reserved opcode bytes are exactly those listed, and a command with one of them
faults `ILLEGAL_OPCODE` whatever follows it, and does nothing else. -/
def Obligations.ReservedOpcodesFault : Prop :=
  (∀ op : Byte, reservedOpcode op ↔ ∀ args, decode (op :: args) = .illegalOpcode)
    ∧ ∀ (s : State) (op : Byte) (args : List Byte) (rest : List HostInput), reservedOpcode op →
      s.inbox = .command (op :: args) :: rest →
      ∃ t, step s = .next t ∧ StepFaulted .illegalOpcode rest s t

/-- 30_encoding.md R104: the empty string and a string shorter than the fixed part are `ILLEGAL_OPCODE`; any
other length that is not the required one is `BAD_OPERAND`; the required length decodes. `n` is the length
of the fixed part of the opcode's format (R102), for the fixed-length formats. -/
def Obligations.LengthCheckOfFixedFormats : Prop :=
  decode [] = .illegalOpcode ∧
  ∀ (op : Byte) (args : List Byte) (n : Nat),
    ((op, n) ∈ [((0x01 : Byte), 2), (0x02, 8), (0x03, 2), (0x07, 3), (0x08, 4), (0x0A, 3), (0x10, 5), (0x31, 5),
        (0x34, 3)]
      ∨ n = 1 ∧ op ∈ [(0x04 : Byte), 0x06, 0x11, 0x12, 0x13, 0x14, 0x15, 0x20, 0x21, 0x22, 0x23, 0x24, 0x25,
        0x26, 0x27, 0x28, 0x29, 0x2A, 0x2B, 0x2C, 0x2D, 0x30, 0x32, 0x33, 0x40, 0x44, 0x50, 0x51]) →
    (args.length + 1 < n → decode (op :: args) = .illegalOpcode)
      ∧ (n < args.length + 1 → decode (op :: args) = .badOperand)
      ∧ (args.length + 1 = n → ∃ i, decode (op :: args) = .command i)

/-- 30_encoding.md R104 for the formats `S` (0x05, 0x09, 0x41, 0x42) and `SS` (0x43): without the fixed
part `ILLEGAL_OPCODE`, with a string cut short or bytes left over `BAD_OPERAND`. That the fixed part of
`SS` counts five bytes is log 11. -/
def Obligations.LengthCheckOfStringFormats : Prop :=
  (∀ (op l1 l2 : Byte) (data : List Byte), op ∈ [(0x05 : Byte), 0x09, 0x41, 0x42] →
    decode [op] = .illegalOpcode ∧ decode [op, l1] = .illegalOpcode
      ∧ (data.length ≠ l1.toNat * 256 + l2.toNat → decode (op :: l1 :: l2 :: data) = .badOperand)
      ∧ (data.length = l1.toNat * 256 + l2.toNat → ∃ i, decode (op :: l1 :: l2 :: data) = .command i))
  ∧ (∀ args : List Byte, args.length < 4 → decode (0x43 :: args) = .illegalOpcode)
  ∧ (∀ (t1 t2 : Byte) (rest : List Byte), 2 ≤ rest.length → rest.length < t1.toNat * 256 + t2.toNat + 2 →
      decode (0x43 :: t1 :: t2 :: rest) = .badOperand)
  ∧ (∀ (t1 t2 d1 d2 : Byte) (topic data : List Byte), topic.length = t1.toNat * 256 + t2.toNat →
      (data.length ≠ d1.toNat * 256 + d2.toNat →
        decode (0x43 :: t1 :: t2 :: (topic ++ d1 :: d2 :: data)) = .badOperand)
      ∧ (data.length = d1.toNat * 256 + d2.toNat →
        decode (0x43 :: t1 :: t2 :: (topic ++ d1 :: d2 :: data)) = .command (.mqPublish topic data)))

/-- Command bytes of 95_test_vectors.md decode to the commands they stand for. -/
def Obligations.SampleCommandsDecode : Prop :=
  decode [0x02, 0x00, 0x02, 0x03, 0x04, 0x05, 0x06, 0x07] = .command (.wr 0x00 0x020304050607)
    ∧ decode [0x10, 0x05, 0xF0, 0x00, 0x03] = .command (.acc 1520 3)
    ∧ decode [0x2A] = .command .isMqttConnectAck
    ∧ decode [0x31, 0xC0, 0xA8, 0x01, 0x0A] = .command (.buildArpRequest 0xC0A8010A)
    ∧ decode [0x43, 0x00, 0x03, 0x61, 0x2F, 0x62, 0x00, 0x02, 0x68, 0x69]
      = .command (.mqPublish [0x61, 0x2F, 0x62] [0x68, 0x69])
    ∧ decode [0x51] = .command .fsmStep

/-! ### Buffers -/

/-- 20_memory.md R61, R63, R64: `MemWrite(a, n, v)` then `MemRead(a, n)` gives the low `8n` bits of `v`, no
other byte changes, and a two-byte read is `PB[a]*256 + PB[a+1]` whatever wrote the bytes. The spec marks
R63 and R64 as derived from R60 and R42. -/
def Obligations.BufferFieldsAreBigEndian : Prop :=
  ∀ (s : State) (a n v : Nat), n ∈ [1, 2, 4, 6] → a + n ≤ 1522 →
    (s.memWrite a n v).memRead a n = v % 2 ^ (8 * n)
      ∧ (∀ i, i < n → ((s.memWrite a n v).pbAt (a + i)).toNat = v / 2 ^ (8 * (n - 1 - i)) % 256)
      ∧ PbKeptOutside a n s (s.memWrite a n v)
      ∧ s.memRead a 2 = (s.pbAt a).toNat * 256 + (s.pbAt (a + 1)).toNat

/-! ### System commands -/

/-- The register numbers that are no register's (10_state.md R20). -/
def reservedRegister (n : Byte) : Prop := 0x0A ≤ n ∧ n ≤ 0x0F ∨ 0x16 ≤ n ∧ n ≤ 0x1F ∨ 0x28 ≤ n

/-- 45_system.md R250: `RD` of each of the 24 register numbers hands back that register's value at its
width, from before the command's own `ERR` write; a reserved number faults `BAD_OPERAND`. -/
def Obligations.RdHandsBackTheRegister : Prop :=
  (∀ n : Byte, decode [0x01, n] = .command (.rd n)) ∧
  (∀ (s : State) (n : Byte) (v : Nat),
    (n, v) ∈ [((0x00 : Byte), s.localMac.toNat), (0x01, s.localIp.toNat), (0x02, s.subnetMask.toNat),
      (0x03, s.gatewayIp.toNat), (0x04, s.brokerIp.toNat), (0x05, s.brokerMac.toNat), (0x06, s.dhcpEn.toNat),
      (0x07, s.ipId.toNat), (0x08, s.tcpSeq.toNat), (0x09, s.tcpAck.toNat), (0x10, s.ctxSrcMac.toNat),
      (0x11, s.ctxDstMac.toNat), (0x12, s.ctxSrcIp.toNat), (0x13, s.ctxDstIp.toNat),
      (0x14, s.ctxSrcPort.toNat), (0x15, s.ctxDstPort.toNat), (0x20, s.sum.toNat), (0x21, s.result.toNat),
      (0x22, s.flags.byte.toNat), (0x23, s.err.code.toNat), (0x24, s.fsm.number.toNat), (0x25, s.rxLen.toNat),
      (0x26, s.psbLen.toNat), (0x27, s.mqLen.toNat)] →
    ∃ t, exec (.rd n) s = .next t ∧ t.result.toNat = v ∧ t.err = .ok ∧ OnlyRegs [.result, .err] s t)
  ∧ ∀ (s : State) (n : Byte), reservedRegister n → ∃ t, exec (.rd n) s = .next t ∧ Faulted .badOperand s t

/-- 45_system.md R251: `WR` of a register of class RW stores the low bits of the value, and changes nothing
else but `ERR`; a reserved number and a register of class RO (0x21 to 0x27) fault `BAD_OPERAND`. -/
def Obligations.WrStoresTheTruncatedValue : Prop :=
  (∀ (n : Byte) (val : BitVec 48), decode (0x02 :: n :: beBytes 6 val.toNat) = .command (.wr n val)) ∧
  (∀ (s : State) (r : Reg) (val : BitVec 48), r.number.toNat ≤ 0x20 →
    ∃ t, exec (.wr r.number val) s = .next t ∧ t.readReg r = val.toNat % 2 ^ r.width ∧ t.err = .ok
      ∧ OnlyRegs [r, .err] s t)
  ∧ ∀ (s : State) (n : Byte) (val : BitVec 48), reservedRegister n ∨ 0x21 ≤ n ∧ n ≤ 0x27 →
    ∃ t, exec (.wr n val) s = .next t ∧ Faulted .badOperand s t

/-- 45_system.md R252: `IPVALID` answers in `MATCH` whether one of the six address registers is not 0.0.0.0;
any other number faults `BAD_OPERAND`. -/
def Obligations.IpvalidAnswersWhetherNonzero : Prop :=
  (∀ n : Byte, decode [0x03, n] = .command (.ipvalid n)) ∧
  (∀ (s : State) (n : Byte) (v : BitVec 32),
    (n, v) ∈ [((0x01 : Byte), s.localIp), (0x02, s.subnetMask), (0x03, s.gatewayIp), (0x04, s.brokerIp),
      (0x12, s.ctxSrcIp), (0x13, s.ctxDstIp)] →
    ∃ t, exec (.ipvalid n) s = .next t ∧ (t.flags.matched = true ↔ v ≠ 0)
      ∧ t.flags = { s.flags with matched := t.flags.matched } ∧ t.err = .ok ∧ OnlyRegs [.flags, .err] s t)
  ∧ ∀ (s : State) (n : Byte), n ∉ [(0x01 : Byte), 0x02, 0x03, 0x04, 0x12, 0x13] →
    ∃ t, exec (.ipvalid n) s = .next t ∧ Faulted .badOperand s t

/-- 45_system.md R253: `CTX.LOAD` copies the four addresses, sets the destination port to 1883, and leaves
`CTX_SRC_PORT` and everything else. -/
def Obligations.CtxLoadCopiesTheConfiguration : Prop :=
  decode [0x04] = .command .ctxLoad ∧
  ∀ s : State, ∃ t, exec .ctxLoad s = .next t
    ∧ t.ctxSrcMac = s.localMac ∧ t.ctxDstMac = s.brokerMac ∧ t.ctxSrcIp = s.localIp
    ∧ t.ctxDstIp = s.brokerIp ∧ t.ctxDstPort.toNat = 1883 ∧ t.err = .ok
    ∧ OnlyRegs [.ctxSrcMac, .ctxDstMac, .ctxSrcIp, .ctxDstIp, .ctxDstPort, .err] s t

/-- 45_system.md R254: `RX.LOAD` stores the frame from offset 0, keeps the bytes behind it and records its
length; a length above 1522 faults. -/
def Obligations.RxLoadDeliversTheFrame : Prop :=
  (∀ data : List Byte, data.length < 65536 →
    decode (0x05 :: (beBytes 2 data.length ++ data)) = .command (.rxLoad data)) ∧
  ∀ (s : State) (data : List Byte),
    (data.length ≤ 1522 →
      ∃ t, exec (.rxLoad data) s = .next t ∧ t.pbBytes 0 data.length = data
        ∧ PbKeptOutside 0 data.length s t ∧ t.rxLen.toNat = data.length ∧ t.err = .ok
        ∧ RegsKept [.rxLen, .err] s t ∧ PsbKept s t ∧ PortsKept s t)
    ∧ (1522 < data.length → ∃ t, exec (.rxLoad data) s = .next t ∧ Faulted .badOperand s t)

/-- 45_system.md R255: `RX.OVF` puts the driver's answer in `OVF`, whatever the flag held, and completes
`OK` whatever the answer. -/
def Obligations.RxOvfReportsTheDriversAnswer : Prop :=
  decode [0x06] = .command .rxOvf ∧
  ∀ s : State, ∃ t, exec .rxOvf s = .next t ∧ t.flags = { s.flags with ovf := s.nextOvfAnswer } ∧ t.err = .ok
    ∧ RegsKept [.flags, .err] s t ∧ PbKept s t ∧ PsbKept s t ∧ t.draws = s.draws + 1
    ∧ t.ovfAnswers = s.ovfAnswers.tail ∧ t.txAnswers = s.txAnswers ∧ t.txLog = s.txLog ∧ t.inbox = s.inbox
    ∧ t.params = s.params ∧ t.epoch = s.epoch ∧ t.responses = s.responses

/-- 45_system.md R256, R257, R259: `PB.RD` and `PSB.RD` hand back one byte, `PB.WR` changes one byte of `PB`;
an offset at or beyond the buffer's capacity faults `BOUNDS`. -/
def Obligations.BufferBytesAreReadAndWritten : Prop :=
  (∀ (off : BitVec 16) (byte : Byte), decode (0x07 :: beBytes 2 off.toNat) = .command (.pbRd off)
    ∧ decode (0x08 :: (beBytes 2 off.toNat ++ [byte])) = .command (.pbWr off byte)
    ∧ decode (0x0A :: beBytes 2 off.toNat) = .command (.psbRd off)) ∧
  ∀ (s : State) (off : BitVec 16) (byte : Byte),
    (off.toNat < 1522 → ∃ t, exec (.pbRd off) s = .next t ∧ t.result = (s.pbAt off.toNat).setWidth 48
      ∧ t.err = .ok ∧ OnlyRegs [.result, .err] s t)
    ∧ (1522 ≤ off.toNat → ∃ t, exec (.pbRd off) s = .next t ∧ Faulted .bounds s t)
    ∧ (off.toNat < 1522 → ∃ t, exec (.pbWr off byte) s = .next t ∧ t.pbAt off.toNat = byte
      ∧ PbKeptOutside off.toNat 1 s t ∧ t.err = .ok ∧ RegsKept [.err] s t ∧ PsbKept s t ∧ PortsKept s t)
    ∧ (1522 ≤ off.toNat → ∃ t, exec (.pbWr off byte) s = .next t ∧ Faulted .bounds s t)
    ∧ (off.toNat < 1468 → ∃ t, exec (.psbRd off) s = .next t ∧ t.result = (s.psbAt off.toNat).setWidth 48
      ∧ t.err = .ok ∧ OnlyRegs [.result, .err] s t)
    ∧ (1468 ≤ off.toNat → ∃ t, exec (.psbRd off) s = .next t ∧ Faulted .bounds s t)

/-- 45_system.md R258: `PSB.LOAD` stages a payload and its length, and does not write `RESULT`; a length
above 1468 faults. -/
def Obligations.PsbLoadStagesThePayload : Prop :=
  (∀ data : List Byte, data.length < 65536 →
    decode (0x09 :: (beBytes 2 data.length ++ data)) = .command (.psbLoad data)) ∧
  ∀ (s : State) (data : List Byte),
    (data.length ≤ 1468 →
      ∃ t, exec (.psbLoad data) s = .next t ∧ t.psbBytes 0 data.length = data
        ∧ (∀ k, data.length ≤ k → t.psbAt k = s.psbAt k) ∧ t.psbLen.toNat = data.length ∧ t.err = .ok
        ∧ RegsKept [.psbLen, .err] s t ∧ PbKept s t ∧ PortsKept s t)
    ∧ (1468 < data.length → ∃ t, exec (.psbLoad data) s = .next t ∧ Faulted .badOperand s t)

/-! ### Checksum engine -/

/-- 40_checksum.md R130, R132: `ACC` adds the exact word sum of the range to `SUM` modulo 2^32, for every
start and count inside the buffer, odd ones too; beyond it, it faults `BOUNDS`. -/
def Obligations.AccAddsTheWordsOfTheRange : Prop :=
  (∀ off cnt : BitVec 16,
    decode (0x10 :: (beBytes 2 off.toNat ++ beBytes 2 cnt.toNat)) = .command (.acc off cnt)) ∧
  ∀ (s : State) (off cnt : BitVec 16),
    (off.toNat + cnt.toNat ≤ 1522 →
      ∃ t, exec (.acc off cnt) s = .next t
        ∧ t.sum.toNat = (s.sum.toNat + exactWordSum s.pbAt off.toNat cnt.toNat) % 2 ^ 32
        ∧ t.err = .ok ∧ OnlyRegs [.sum, .err] s t)
    ∧ (1522 < off.toNat + cnt.toNat → ∃ t, exec (.acc off cnt) s = .next t ∧ Faulted .bounds s t)

/-- 40_checksum.md R131, R133: `FOLD` hands back the one's-complement checksum of `SUM`: 0xFFFF for 0, and
otherwise the number below 0xFFFF whose sum with `SUM` is a multiple of 0xFFFF. -/
def Obligations.FoldHandsBackTheOnesComplement : Prop :=
  decode [0x11] = .command .fold ∧
  ∀ s : State, ∃ t, exec .fold s = .next t
    ∧ (s.sum = 0 → t.result.toNat = 0xFFFF)
    ∧ (s.sum ≠ 0 → t.result.toNat < 0xFFFF ∧ (t.result.toNat + s.sum.toNat) % 0xFFFF = 0)
    ∧ t.err = .ok ∧ OnlyRegs [.result, .err] s t

/-- 40_checksum.md R131: the loop "runs at most twice" (after two rounds the upper half is zero, so more
rounds change nothing), and the values at the corners. -/
def Obligations.FoldLoopEndsInTwoRounds : Prop :=
  (∀ (k : Nat) (x : BitVec 32), foldLoop (k + 1) x
      = if x >>> 16 = 0 then x else foldLoop k ((x.setWidth 16).setWidth 32 + x >>> 16)) ∧
  (∀ (k : Nat) (x : BitVec 32), foldLoop (k + 2) x = foldLoop 2 x ∧ (foldLoop 2 x).toNat / 65536 = 0
      ∧ fold x = ~~~ ((foldLoop 2 x).setWidth 16))
    ∧ fold 0x00000000 = 0xFFFF ∧ fold 0x0000FFFF = 0x0000 ∧ fold 0x0001FFFF = 0xFFFE
    ∧ fold 0xFFFFFFFF = 0x0000 ∧ fold 0xFFFF0001 = 0xFFFE

/-- 40_checksum.md R139, the contract of the engine: zero the field, sum, fold, write the fold back; then the
region folds to zero, for even and odd lengths and every seed that does not make the 32-bit sum wrap. The
case of an odd length is the spec's own inference ("derived: from rule R130 and rule R131"). -/
def Obligations.InjectedChecksumFoldsToZero : Prop :=
  ∀ (s : State) (a n f : Nat) (x : BitVec 32),
    a + n ≤ 1522 → a ≤ f → (f - a) % 2 = 0 → f + 2 ≤ a + n →
    x.toNat + exactWordSum
      ((s.memWrite f 2 0).memWrite f 2 (fold ((s.memWrite f 2 0).acc a n x)).toNat).pbAt a n < 2 ^ 32 →
    fold (((s.memWrite f 2 0).memWrite f 2 (fold ((s.memWrite f 2 0).acc a n x)).toNat).acc a n x) = 0

/-- 40_checksum.md R135: `CK.IP` writes the fold of the header sum, the field zeroed, into `PB[24..25]` and
`RESULT` and nothing else, for every header length; where the header ends before the field (`Ihl` of 0, 4 and
8) that is the fold of the header as it stands, 0xFFFF over no bytes; where it covers the field, the header
then folds to zero. -/
def Obligations.CkIpMakesTheHeaderValid : Prop :=
  decode [0x12] = .command .ckIp ∧
  ∀ s : State, ∃ t, exec .ckIp s = .next t
    ∧ t.result.toNat = t.memRead 24 2 ∧ t.err = .ok
    ∧ t.ihl = s.ihl ∧ t.result = (fold ((s.memWrite 24 2 0).acc 14 s.ihl 0)).setWidth 48
    ∧ (s.ihl ≤ 8 → t.result = (fold (s.acc 14 s.ihl 0)).setWidth 48)
    ∧ (t.ihl = 0 → t.memRead 24 2 = 0xFFFF)
    ∧ (12 ≤ t.ihl → fold (t.acc 14 t.ihl 0) = 0)
    ∧ PbKeptOutside 24 2 s t ∧ RegsKept [.result, .err] s t ∧ PsbKept s t ∧ PortsKept s t

/-- 40_checksum.md R136 to R138: with consistent lengths the three commands write the checksum into their
field and `RESULT` and nothing else. For every header length it is the fold of the layer-4 sum (with the
pseudo-header for UDP and TCP) with the field zeroed, and with a header of at least 20 bytes that sum then
folds to zero. -/
def Obligations.LayerFourChecksumsAreInjected : Prop :=
  ∀ (s : State) (i : Instr) (field least : Nat) (sumOf : State → BitVec 32),
    (i = .ckIcmp ∧ field = 2 ∧ least = 4 ∧ sumOf = (fun t => t.acc t.l4Base t.l4Len 0)
      ∨ i = .ckUdp ∧ field = 6 ∧ least = 8 ∧ sumOf = (fun t => t.l4Sum 17)
      ∨ i = .ckTcp ∧ field = 16 ∧ least = 20 ∧ sumOf = (fun t => t.l4Sum 6)) →
    s.ihl ≤ s.ipTotLen → 14 + s.ipTotLen ≤ 1522 → least ≤ s.l4Len →
    ∃ t, exec i s = .next t
      ∧ t.result.toNat = t.memRead (s.l4Base + field) 2 ∧ t.err = .ok
      ∧ t.result = (fold (sumOf (s.memWrite (s.l4Base + field) 2 0))).setWidth 48
      ∧ (20 ≤ s.ihl → fold (sumOf t) = 0)
      ∧ PbKeptOutside (s.l4Base + field) 2 s t ∧ RegsKept [.result, .err] s t ∧ PsbKept s t ∧ PortsKept s t

/-- 40_checksum.md R136 to R138, 42_builders.md R184, 60_exceptions.md R288, R289: the three checks, in the
order of the pseudocode, each fault precise. -/
def Obligations.InconsistentLengthsFault : Prop :=
  ∀ (s : State) (i : Instr) (least : Nat),
    (i, least) ∈ [(Instr.ckIcmp, 4), (.ckUdp, 8), (.ckTcp, 20), (.buildIcmpEchoReply, 4)] →
    (s.ipTotLen < s.ihl → ∃ t, exec i s = .next t ∧ Faulted .badLength s t)
    ∧ (s.ihl ≤ s.ipTotLen → 1522 < 14 + s.ipTotLen → ∃ t, exec i s = .next t ∧ Faulted .bounds s t)
    ∧ (s.ihl ≤ s.ipTotLen → 14 + s.ipTotLen ≤ 1522 → s.ipTotLen < s.ihl + least →
      ∃ t, exec i s = .next t ∧ Faulted .badLength s t)

/-- A UDP datagram whose checksum the CORE has injected is one the CORE accepts (40_checksum.md R137,
41_classifier.md R157). -/
def Obligations.InjectedUdpDatagramIsUdp : Prop :=
  ∀ s t u : State, ipHeaderValid s → 20 ≤ s.ihl → s.pbAt 23 = 17 → s.ihl + 8 ≤ s.ipTotLen →
    14 + s.ipTotLen ≤ 1522 → exec .ckUdp s = .next t → exec .isUdp t = .next u → u.flags.matched = true

/-! ### Classifier -/

/-- 41_classifier.md R152, R153, R156: `IsIp`, `IsIpUnicast` and `IsPingRequest`. -/
def Obligations.IpPredicatesAnswerTheHeader : Prop :=
  (decode [0x20] = .command .isIp
    ∧ decode [0x21] = .command .isIpUnicast
    ∧ decode [0x24] = .command .isPingRequest) ∧
  ∀ s : State,
    Answers .isIp s (ipHeaderValid s)
    ∧ Answers .isIpUnicast s (ipHeaderValid s ∧ longAt s 30 = s.localIp)
    ∧ Answers .isPingRequest s (ipHeaderValid s ∧ s.pbAt 23 = 1#8 ∧ s.pbAt (payloadOffset s) = 8#8)

/-- 41_classifier.md R154, R155: `IsArpRequest` and `IsArpReply`. -/
def Obligations.ArpPredicatesAnswerTheMessage : Prop :=
  (decode [0x22] = .command .isArpRequest
    ∧ decode [0x23] = .command .isArpReply) ∧
  ∀ s : State,
    Answers .isArpRequest s (shortAt s 12 = 0x0806#16 ∧ longAt s 38 = s.localIp ∧ shortAt s 20 = 1#16)
    ∧ Answers .isArpReply s (shortAt s 12 = 0x0806#16 ∧ longAt s 38 = s.localIp ∧ shortAt s 20 = 2#16)

/-- 41_classifier.md R157: `IsUdp`, with the pseudo-header, the protocol constant and the layer-4 length in
exact arithmetic; a length that is inconsistent or leaves the buffer is no match. -/
def Obligations.UdpPredicateAnswersTheChecksum : Prop :=
  decode [0x25] = .command .isUdp ∧
  ∀ s : State,
    Answers .isUdp s
      (ipHeaderValid s ∧ s.pbAt 23 = 17#8
        ∧ (s.pbAt 14).toNat % 16 * 4 + 8 ≤ (shortAt s 16).toNat ∧ 14 + (shortAt s 16).toNat ≤ 1522
        ∧ (exactWordSum s.pbAt 26 8 + 17 + ((shortAt s 16).toNat - (s.pbAt 14).toNat % 16 * 4)
            + exactWordSum s.pbAt (payloadOffset s) ((shortAt s 16).toNat - (s.pbAt 14).toNat % 16 * 4)) % 65535
          = 0)

/-- 41_classifier.md R158 to R161: `IsTcp`, and the three ack variants by equality of the 12-bit field. -/
def Obligations.TcpPredicatesAnswerTheFlagField : Prop :=
  (decode [0x26] = .command .isTcp
    ∧ decode [0x27] = .command .isTcpAck
    ∧ decode [0x28] = .command .isTcpFinAck
    ∧ decode [0x29] = .command .isTcpResetAck) ∧
  ∀ s : State,
    Answers .isTcp s (s.pbAt 23 = 6#8)
    ∧ Answers .isTcpAck s (s.pbAt 23 = 6#8 ∧ forThisNode s
        ∧ (flagField s = 0x012#12 ∨ flagField s = 0x010#12 ∨ flagField s = 0x018#12))
    ∧ Answers .isTcpFinAck s (s.pbAt 23 = 6#8 ∧ forThisNode s ∧ flagField s = 0x011#12)
    ∧ Answers .isTcpResetAck s (s.pbAt 23 = 6#8 ∧ forThisNode s ∧ flagField s = 0x014#12)

/-- 41_classifier.md R162 to R166: the four MQTT predicates, and the length that three of them record on a
match and only then. -/
def Obligations.MqttPredicatesAnswerTheFirstByte : Prop :=
  (decode [0x2A] = .command .isMqttConnectAck
    ∧ decode [0x2B] = .command .isMqttSubAck
    ∧ decode [0x2C] = .command .isMqttUnSubAck
    ∧ decode [0x2D] = .command .isMqttPublish) ∧
  ∀ s : State,
    Answers .isMqttConnectAck s
      (forThisNode s ∧ s.pbAt (mqttOffset s) = 0x20#8 ∧ s.pbAt (mqttOffset s + 2) = 0#8)
    ∧ AnswersWithLength .isMqttSubAck s (forThisNode s ∧ s.pbAt (mqttOffset s) = 0x90#8)
    ∧ AnswersWithLength .isMqttUnSubAck s (forThisNode s ∧ s.pbAt (mqttOffset s) = 0xB0#8)
    ∧ AnswersWithLength .isMqttPublish s (forThisNode s ∧ s.pbAt (mqttOffset s) = 0x30#8)

/-- 41_classifier.md R150: "any classifier predicate called twice on unmodified B returns the same result",
for all fourteen: the second call leaves exactly the state the first left. -/
def Obligations.ClassifiersAreRepeatable : Prop :=
  ∀ (i : Instr) (s t : State),
    i ∈ [Instr.isIp, .isIpUnicast, .isArpRequest, .isArpReply, .isPingRequest, .isUdp, .isTcp, .isTcpAck,
      .isTcpFinAck, .isTcpResetAck, .isMqttConnectAck, .isMqttSubAck, .isMqttUnSubAck, .isMqttPublish] →
    exec i s = .next t → exec i t = .next t

/-- 41_classifier.md R167, which the spec derives from R152 to R165: which predicates exclude each
other. `i` and `j` are two classifier commands run on one state. -/
def Obligations.PredicatesExcludeEachOther : Prop :=
  ∀ (s t u : State) (i j : Instr),
    (i ∈ [Instr.isArpRequest, .isArpReply] ∧ j ∈ [Instr.isIp, .isIpUnicast, .isPingRequest, .isUdp]
      ∨ i = .isArpRequest ∧ j = .isArpReply
      ∨ (i, j) ∈ [(Instr.isPingRequest, Instr.isUdp), (.isPingRequest, .isTcp), (.isUdp, .isTcp)]
      ∨ (i, j) ∈ [(Instr.isTcpAck, Instr.isTcpFinAck), (.isTcpAck, .isTcpResetAck),
          (.isTcpFinAck, .isTcpResetAck)]
      ∨ (i, j) ∈ [(Instr.isMqttConnectAck, Instr.isMqttSubAck), (.isMqttConnectAck, .isMqttUnSubAck),
          (.isMqttConnectAck, .isMqttPublish), (.isMqttSubAck, .isMqttUnSubAck),
          (.isMqttSubAck, .isMqttPublish), (.isMqttUnSubAck, .isMqttPublish)]) →
    exec i s = .next t → exec j s = .next u → ¬ (t.flags.matched = true ∧ u.flags.matched = true)

/-! ### Builders -/

/-- 42_builders.md R182: `BuildArpReply` turns the message in `PB` into the reply to its sender, keeps bytes
12 to 19 and everything from 42 on, and transmits 42 bytes. -/
def Obligations.ArpReplyAnswersTheSender : Prop :=
  decode [0x30] = .command .buildArpReply ∧
  ∀ s : State, ∃ t, exec .buildArpReply s = .next t
    ∧ macAt t 0 = macAt s 22 ∧ macAt t 6 = s.localMac ∧ shortAt t 20 = 2#16
    ∧ macAt t 22 = s.localMac ∧ longAt t 28 = s.localIp ∧ macAt t 32 = macAt s 22 ∧ longAt t 38 = longAt s 28
    ∧ (∀ k, 12 ≤ k ∧ k < 20 ∨ 42 ≤ k → t.pbAt k = s.pbAt k) ∧ Sent 42 [] s t

/-- 42_builders.md R183: every byte of the ARP request `BuildArpRequest` builds. -/
def Obligations.ArpRequestIsBuiltFromNothing : Prop :=
  (∀ ip : BitVec 32, decode (0x31 :: beBytes 4 ip.toNat) = .command (.buildArpRequest ip)) ∧
  ∀ (s : State) (ip : BitVec 32), ∃ t, exec (.buildArpRequest ip) s = .next t
    ∧ macAt t 0 = 0xFFFFFFFFFFFF#48 ∧ macAt t 6 = s.localMac ∧ shortAt t 12 = 0x0806#16
    ∧ shortAt t 14 = 1#16 ∧ shortAt t 16 = 0x0800#16 ∧ t.pbAt 18 = 6#8 ∧ t.pbAt 19 = 4#8
    ∧ shortAt t 20 = 1#16 ∧ macAt t 22 = s.localMac ∧ longAt t 28 = s.localIp ∧ macAt t 32 = 0#48
    ∧ longAt t 38 = ip ∧ PbKeptOutside 0 42 s t ∧ Sent 42 [] s t

/-- 42_builders.md R184, for every header length but zero: addresses exchanged, type zero, identifier,
sequence number and data kept, the ICMP sum folds to zero, the IPv4 header sum is what it was, and the
frame of the IPv4 total length is transmitted. With headers of 12 and 16 bytes the exchanged addresses and
the ICMP type and checksum overlap, so those clauses leave them out. -/
def Obligations.IcmpEchoReplyMirrorsTheRequest : Prop :=
  ∀ s : State, 4 ≤ s.ihl → s.ihl + 4 ≤ s.ipTotLen → 14 + s.ipTotLen ≤ 1522 →
    ∃ t, exec .buildIcmpEchoReply s = .next t
      ∧ macAt t 0 = macAt s 6 ∧ macAt t 6 = macAt s 0 ∧ t.pbAt s.l4Base = 0#8
      ∧ (s.ihl < 12 ∨ 20 ≤ s.ihl → longAt t 26 = longAt s 30 ∧ longAt t 30 = longAt s 26)
      ∧ fold (t.acc t.l4Base t.l4Len 0) = 0
      ∧ (20 ≤ s.ihl → t.ipSum = s.ipSum)
      ∧ (∀ k, 12 ≤ k → k < 26 ∨ 34 ≤ k → k ≠ s.l4Base → k ≠ s.l4Base + 2 → k ≠ s.l4Base + 3 →
          t.pbAt k = s.pbAt k)
      ∧ Sent (14 + s.ipTotLen) [] s t

/-- The byte at an offset of `PB` after `SwapEth` and `SwapIp` (42_builders.md R184): the two hardware
addresses exchanged, and the two protocol addresses. -/
def exchangedAt (s : State) (k : Nat) : Byte :=
  if k < 6 then s.pbAt (k + 6)
  else if k < 12 then s.pbAt (k - 6)
  else if k < 26 then s.pbAt k
  else if k < 30 then s.pbAt (k + 4)
  else if k < 34 then s.pbAt (k - 4)
  else s.pbAt k

/-- 42_builders.md R185, for every header length but zero: every byte of the reply. `u` is where the datagram
starts, `n` the payload's length. Addresses exchanged, total length set, then the datagram: its ports the
exchanged bytes of the request's, its length, the staged payload, and the checksum that is the fold of the
sum with its field zeroed; nothing else changes and `u + 8 + n` bytes are transmitted. The writes come in the
order of the pseudocode, so with a header of 8 bytes the header checksum stands on the destination port, and
with one of 4 bytes the UDP checksum stands on the header checksum. The header checksum verifies where the
header covers it; the UDP checksum verifies but with headers of 8 and 12 bytes, where it stands on an address
of its own pseudo-header. -/
def Obligations.UdpReplyCarriesTheStagedPayload : Prop :=
  ∀ s : State, 4 ≤ s.ihl → s.l4Base + 8 + s.psbLen.toNat ≤ 1522 →
    ∃ t, exec .buildUdpReply s = .next t
      ∧ macAt t 0 = macAt s 6 ∧ macAt t 6 = macAt s 0
      ∧ (shortAt t 16).toNat = s.ihl + 8 + s.psbLen.toNat
      ∧ (20 ≤ s.ihl →
          longAt t 26 = longAt s 30 ∧ longAt t 30 = longAt s 26
          ∧ shortAt t s.l4Base = shortAt s (s.l4Base + 2) ∧ shortAt t (s.l4Base + 2) = shortAt s s.l4Base)
      ∧ (∀ k, 26 ≤ k → k < 34 → k < s.l4Base ∨ s.l4Base + 8 + s.psbLen.toNat ≤ k → t.pbAt k = exchangedAt s k)
      ∧ shortAt t s.l4Base = exchangedAt s (s.l4Base + 2) ++ exchangedAt s (s.l4Base + 3)
      ∧ (s.ihl ≠ 8 → shortAt t (s.l4Base + 2) = exchangedAt s s.l4Base ++ exchangedAt s (s.l4Base + 1))
      ∧ (shortAt t (s.l4Base + 4)).toNat = 8 + s.psbLen.toNat
      ∧ t.pbBytes (s.l4Base + 8) s.psbLen.toNat = s.psbBytes 0 s.psbLen.toNat
      ∧ (8 ≤ s.ihl → shortAt t 24 = fold (t.memWrite 24 2 0).ipSum)
      ∧ (12 ≤ s.ihl → fold t.ipSum = 0)
      ∧ shortAt t (s.l4Base + 6) = fold ((t.memWrite (s.l4Base + 6) 2 0).l4Sum 17)
      ∧ (s.ihl ≠ 8 → s.ihl ≠ 12 → fold (t.l4Sum 17) = 0)
      ∧ (∀ k, 12 ≤ k → k < 16 ∨ 18 ≤ k ∧ k < 24 ∨ 34 ≤ k →
          k < s.l4Base ∨ s.l4Base + 8 + s.psbLen.toNat ≤ k → t.pbAt k = s.pbAt k)
      ∧ Sent (s.l4Base + 8 + s.psbLen.toNat) [] s t

/-- The model's reading of 20_memory.md R65 and 60_exceptions.md R288 where the header-length nibble is zero
(log 9): the echo reply always faults `BOUNDS`. The UDP reply exchanges the ports over the header length and
the total length, so the low nibble of `PB[16]` becomes the header length its later steps read: it transmits
`22 + PSB_LEN` bytes when the datagram then described stays in the buffer, and faults `BOUNDS` when it does
not. -/
def Obligations.ZeroHeaderLengthNeverLeavesTheBuffer : Prop :=
  ∀ s : State, s.ihl = 0 →
    (4 ≤ s.ipTotLen → 14 + s.ipTotLen ≤ 1522 →
      ∃ t, exec .buildIcmpEchoReply s = .next t ∧ Faulted .bounds s t)
    ∧ (22 + s.psbLen.toNat ≤ 1522 →
      ∃ t, exec .buildUdpReply s = .next t
        ∧ (22 + (s.pbAt 16).toNat % 16 * 4 + s.psbLen.toNat ≤ 1522 →
            shortAt t 14 = shortAt s 16
              ∧ (shortAt t 16).toNat = (s.pbAt 16).toNat % 16 * 4 + 8 + s.psbLen.toNat
              ∧ (shortAt t 18).toNat = 8 + s.psbLen.toNat
              ∧ macAt t 0 = macAt s 6 ∧ macAt t 6 = macAt s 0 ∧ (∀ k, 82 + s.psbLen.toNat ≤ k → t.pbAt k = s.pbAt k)
              ∧ Sent (22 + s.psbLen.toNat) [] s t)
        ∧ (1522 < 22 + (s.pbAt 16).toNat % 16 * 4 + s.psbLen.toNat →
            Faulted .bounds s t))

/-- 42_builders.md R186: every header field of the segment `BuildTcpSegment` builds, for the seven accepted
flag fields; `h` is the TCP header length and `n` the payload length. -/
def Obligations.TcpSegmentCarriesTheContext : Prop :=
  ∀ (s : State) (flags : BitVec 16) (h n : Nat), s.psbLen.toNat ≤ 1468 →
    flags ∈ [0x002#16, 0x010#16, 0x011#16, 0x004#16, 0x014#16, 0x001#16, 0x018#16] →
    h = (if flags = 0x002#16 then 24 else 20) → n = (if flags = 0x018#16 then s.psbLen.toNat else 0) →
    ∃ t, exec (.buildTcpSegment flags) s = .next t
      ∧ macAt t 0 = s.ctxDstMac ∧ macAt t 6 = s.ctxSrcMac ∧ shortAt t 12 = 0x0800#16
      ∧ t.pbAt 14 = 0x45#8 ∧ t.pbAt 15 = 0#8 ∧ (shortAt t 16).toNat = 20 + h + n ∧ shortAt t 18 = s.ipId
      ∧ shortAt t 20 = 0#16 ∧ t.pbAt 22 = s.params.ipTtl ∧ t.pbAt 23 = 6#8
      ∧ longAt t 26 = s.ctxSrcIp ∧ longAt t 30 = s.ctxDstIp
      ∧ shortAt t 34 = s.ctxSrcPort ∧ shortAt t 36 = s.ctxDstPort
      ∧ longAt t 38 = (if flags = 0x002#16 then 0 else s.tcpSeq)
      ∧ longAt t 42 = (if flags = 0x002#16 then 0 else s.tcpAck)
      ∧ (shortAt t 46).toNat = h / 4 * 4096 + flags.toNat ∧ shortAt t 48 = s.params.tcpWindow
      ∧ shortAt t 52 = 0#16
      ∧ (flags = 0x002#16 → longAt t 54 = 0x020404C4#32)
      ∧ t.pbBytes (34 + h) n = s.psbBytes 0 n
      ∧ PbKeptOutside 0 (34 + h + n) s t ∧ Sent (34 + h + n) [] s t

/-- 42_builders.md R186: both checksums of a built segment verify: the IPv4 header folds to zero, and the
segment with its pseudo-header does. -/
def Obligations.TcpSegmentChecksumsVerify : Prop :=
  ∀ (s t : State) (flags : BitVec 16), s.psbLen.toNat ≤ 1468 →
    flags ∈ [0x002#16, 0x010#16, 0x011#16, 0x004#16, 0x014#16, 0x001#16, 0x018#16] →
    exec (.buildTcpSegment flags) s = .next t →
    ipHeaderValid t ∧ t.l4Base = 34 ∧ fold (t.l4Sum 6) = 0

/-- 42_builders.md R185, R186, 30_encoding.md R107: a UDP reply that would pass offset 1521 faults `BOUNDS`,
and a flags operand that is none of the seven faults `BAD_OPERAND`, before any write. -/
def Obligations.BuildersFaultBeforeAnyWrite : Prop :=
  (∀ s : State, 1522 < s.l4Base + 8 + s.psbLen.toNat →
    ∃ t, exec .buildUdpReply s = .next t ∧ Faulted .bounds s t)
  ∧ ∀ (s : State) (flags : BitVec 16),
    flags ∉ [0x002#16, 0x010#16, 0x011#16, 0x004#16, 0x014#16, 0x001#16, 0x018#16] →
    ∃ t, exec (.buildTcpSegment flags) s = .next t ∧ Faulted .badOperand s t

/-! ### MQTT payload constructors -/

/-- What a constructor that produces `bs` leaves (43_mqtt_payload.md R210). -/
def Constructed (bs : List Byte) (s t : State) : Prop :=
  t.psbBytes 0 bs.length = bs ∧ (∀ k, bs.length ≤ k → t.psbAt k = s.psbAt k)
    ∧ t.psbLen.toNat = bs.length ∧ t.result.toNat = bs.length ∧ t.err = .ok
    ∧ RegsKept [.psbLen, .result, .err] s t ∧ PbKept s t ∧ PortsKept s t

/-- 43_mqtt_payload.md R211, R215: the fixed packets. -/
def Obligations.ConnectAndDisconnectPackets : Prop :=
  (decode [0x40] = .command .mqConnect
    ∧ decode [0x44] = .command .mqDisconnect) ∧
  ∀ s : State,
    (∃ t, exec .mqConnect s = .next t ∧ Constructed
      [0x10, 0x0F, 0x00, 0x04, 0x4D, 0x51, 0x54, 0x54, 0x04, 0x02, 0x00, 0x3C, 0x00, 0x03,
        s.params.clientId0, s.params.clientId1, s.params.clientId2] s t)
    ∧ (∃ t, exec .mqDisconnect s = .next t ∧ Constructed [0xE0, 0x00] s t)

/-- 43_mqtt_payload.md R212 to R214: the packets with strings, up to a remaining length of 127, and the
fault above it. -/
def Obligations.TopicPacketsUpToTheShortLength : Prop :=
  (∀ topic data : List Byte, topic.length < 65536 → data.length < 65536 →
    decode (0x41 :: (beBytes 2 topic.length ++ topic)) = .command (.mqSubscribe topic)
    ∧ decode (0x42 :: (beBytes 2 topic.length ++ topic)) = .command (.mqUnsubscribe topic)
    ∧ decode (0x43 :: (beBytes 2 topic.length ++ topic ++ (beBytes 2 data.length ++ data)))
      = .command (.mqPublish topic data)) ∧
  ∀ (s : State) (topic data : List Byte),
    (topic.length ≤ 122 →
      (∃ t, exec (.mqSubscribe topic) s = .next t ∧ Constructed
        ([0x82, BitVec.ofNat 8 (topic.length + 5), 0x00, 0x0C, 0x00, BitVec.ofNat 8 topic.length]
          ++ topic ++ [0x00]) s t)
      ∧ (∃ t, exec (.mqUnsubscribe topic) s = .next t ∧ Constructed
        ([0xA2, BitVec.ofNat 8 (topic.length + 5), 0x00, 0x0C, 0x00, BitVec.ofNat 8 topic.length]
          ++ topic ++ [0x00]) s t))
    ∧ (122 < topic.length →
      (∃ t, exec (.mqSubscribe topic) s = .next t ∧ Faulted .badOperand s t)
      ∧ (∃ t, exec (.mqUnsubscribe topic) s = .next t ∧ Faulted .badOperand s t))
    ∧ (topic.length + data.length ≤ 125 →
      ∃ t, exec (.mqPublish topic data) s = .next t ∧ Constructed
        ([0x30, BitVec.ofNat 8 (topic.length + data.length + 2), 0x00, BitVec.ofNat 8 topic.length]
          ++ topic ++ data) s t)
    ∧ (125 < topic.length + data.length →
      ∃ t, exec (.mqPublish topic data) s = .next t ∧ Faulted .badOperand s t)

/-! ### Connection state machine -/

/-- 44_fsm.md R231: `FSM.CONNECT` is a trigger in `Idle` and is ignored elsewhere. -/
def Obligations.FsmConnectTriggersOnlyInIdle : Prop :=
  decode [0x50] = .command .fsmConnect ∧
  ∀ s : State, ∃ t, exec .fsmConnect s = .next t
    ∧ t.fsm = (if s.fsm = .idle then .sendArpRequest else s.fsm)
    ∧ t.flags = { s.flags with matched := decide (s.fsm = .idle) } ∧ t.err = .ok
    ∧ OnlyRegs [.fsmState, .flags, .err] s t

/-- `FSM.STEP` takes no transition: `MATCH <- 0`, `ERR <- OK`, and nothing else (44_fsm.md R232). -/
def FsmStays (s : State) : Prop :=
  ∃ t, exec .fsmStep s = .next t ∧ t.flags = { s.flags with matched := false } ∧ t.err = .ok
    ∧ OnlyRegs [.flags, .err] s t

/-- 44_fsm.md R238: in `Idle` and in `TcpConnectionActive` nothing happens under `FSM.STEP`; no command at all
takes the machine out of `TcpConnectionActive` or back to `Idle`, and none but `FSM.CONNECT` out of `Idle`. -/
def Obligations.FsmIdleAndActiveStay : Prop :=
  (∀ s : State, s.fsm = .idle ∨ s.fsm = .tcpConnectionActive → FsmStays s)
    ∧ (∀ (i : Instr) (s t : State), s.fsm = .tcpConnectionActive → exec i s = .next t →
      t.fsm = .tcpConnectionActive)
    ∧ ∀ (i : Instr) (s t : State), exec i s = .next t →
      (t.fsm = .idle → s.fsm = .idle) ∧ (s.fsm = .idle → t.fsm ≠ .idle → i = .fsmConnect)

/-- 44_fsm.md R234: waiting for the ARP reply, `FSM.STEP` stores the sender hardware address of an ARP reply
to this node's address, whoever sent it, and stays on anything else. -/
def Obligations.FsmStepLearnsTheBrokerAddress : Prop :=
  ∀ s : State, s.fsm = .waitArpResponse →
    (shortAt s 12 = 0x0806#16 ∧ longAt s 38 = s.localIp ∧ shortAt s 20 = 2#16 →
      ∃ t, exec .fsmStep s = .next t ∧ t.brokerMac = macAt s 22 ∧ t.fsm = .sendTcpSyn
        ∧ t.flags = { s.flags with matched := true } ∧ t.err = .ok
        ∧ OnlyRegs [.brokerMac, .fsmState, .flags, .err] s t)
    ∧ (¬ (shortAt s 12 = 0x0806#16 ∧ longAt s 38 = s.localIp ∧ shortAt s 20 = 2#16) → FsmStays s)

/-- 44_fsm.md R236: waiting for the SYN-ACK, `FSM.STEP` captures the two numbers of a matching segment as they
stand, and stays on anything else. -/
def Obligations.FsmStepCapturesThePeersNumbers : Prop :=
  ∀ s : State, s.fsm = .waitTcpSynAck →
    (ipHeaderValid s ∧ s.pbAt 23 = 6#8 ∧ forThisNode s
        ∧ (flagField s = 0x012#12 ∨ flagField s = 0x010#12 ∨ flagField s = 0x018#12) →
      ∃ t, exec .fsmStep s = .next t
        ∧ t.tcpAck = longAt s (payloadOffset s + 4) ∧ t.tcpSeq = longAt s (payloadOffset s + 8)
        ∧ t.fsm = .sendTcpAck ∧ t.flags = { s.flags with matched := true } ∧ t.err = .ok
        ∧ OnlyRegs [.tcpAck, .tcpSeq, .fsmState, .flags, .err] s t)
    ∧ (¬ (ipHeaderValid s ∧ s.pbAt 23 = 6#8 ∧ forThisNode s
        ∧ (flagField s = 0x012#12 ∨ flagField s = 0x010#12 ∨ flagField s = 0x018#12)) → FsmStays s)

/-- 44_fsm.md R233, R235, R237: the sending rows do what `BuildArpRequest` to `BROKER_IP`, or `CTX.LOAD` and
then `BuildTcpSegment` with SYN or ACK, does, and advance with `MATCH = 1` whatever the driver answered. -/
def Obligations.FsmStepSendsAndAdvances : Prop :=
  ∀ s : State,
    (s.fsm = .sendArpRequest → ∃ u, exec (.buildArpRequest s.brokerIp) s = .next u
      ∧ Sent 42 [] s u
      ∧ exec .fsmStep s = .next { u with fsm := .waitArpResponse, flags := { u.flags with matched := true } })
    ∧ (s.fsm = .sendTcpSyn → ∃ c u, exec .ctxLoad s = .next c ∧ exec (.buildTcpSegment 0x002) c = .next u
      ∧ Sent 58 [] c u
      ∧ exec .fsmStep s = .next { u with fsm := .waitTcpSynAck, flags := { u.flags with matched := true } })
    ∧ (s.fsm = .sendTcpAck → ∃ c u, exec .ctxLoad s = .next c ∧ exec (.buildTcpSegment 0x010) c = .next u
      ∧ Sent 54 [] c u
      ∧ exec .fsmStep s
        = .next { u with fsm := .tcpConnectionActive, flags := { u.flags with matched := true } })

/-! ### Status registers -/

/-- 10_state.md R35, R36, R34, 30_encoding.md R101: the response record is 8 bytes: the `ERR` code, at most
5, the `FLAGS` byte with its four bits in place and bits 7 to 4 zero, `RESULT` big-endian; `FSM_STATE`
is at most 6; the six codes and the seven state numbers are those of R36 (60_exceptions.md R282) and R34. -/
def Obligations.StatusRegistersHaveTheirLayout : Prop :=
  (∀ r : Response, r.bytes = r.err.code :: r.flags.byte :: beBytes 6 r.result.toNat ∧ r.bytes.length = 8
      ∧ beNat (r.bytes.drop 2) = r.result.toNat)
    ∧ (∀ e : Status, e.code.toNat ≤ 5)
    ∧ (∀ f : Flags, f.byte.getLsbD 0 = f.matched ∧ f.byte.getLsbD 1 = f.txok ∧ f.byte.getLsbD 2 = f.ovf
      ∧ f.byte.getLsbD 3 = f.flt ∧ f.byte.toNat < 16)
    ∧ (∀ q : FsmState, q.number.toNat ≤ 6)
    ∧ Status.code .ok = 0x00 ∧ Status.code (.fault .illegalOpcode) = 0x01
    ∧ Status.code (.fault .badOperand) = 0x02 ∧ Status.code (.fault .bounds) = 0x03
    ∧ Status.code (.fault .badLength) = 0x04 ∧ Status.code .txAbort = 0x05
    ∧ FsmState.number .idle = 0 ∧ FsmState.number .sendArpRequest = 1 ∧ FsmState.number .waitArpResponse = 2
    ∧ FsmState.number .sendTcpSyn = 3 ∧ FsmState.number .waitTcpSynAck = 4 ∧ FsmState.number .sendTcpAck = 5
    ∧ FsmState.number .tcpConnectionActive = 6
end

