-- ==== Sys2Proof/Laws/State.lean ====
section
/-! SUPPORT. One lemma for each field of State under each named update, so that no later proof unfolds a
record update. The proofs are tactic blocks, not the bare term: `simp` then rewrites with the lemma itself,
where a definitional rewrite would have the kernel compare whole states field by field. -/

namespace Sys2Proof.Machine

variable (s : State)

section

variable (a : Nat) (bs : List Byte)

@[simp] theorem State.pbStore_localMac : (s.pbStore a bs).localMac = s.localMac := by rfl
@[simp] theorem State.pbStore_localIp : (s.pbStore a bs).localIp = s.localIp := by rfl
@[simp] theorem State.pbStore_subnetMask : (s.pbStore a bs).subnetMask = s.subnetMask := by rfl
@[simp] theorem State.pbStore_gatewayIp : (s.pbStore a bs).gatewayIp = s.gatewayIp := by rfl
@[simp] theorem State.pbStore_brokerIp : (s.pbStore a bs).brokerIp = s.brokerIp := by rfl
@[simp] theorem State.pbStore_brokerMac : (s.pbStore a bs).brokerMac = s.brokerMac := by rfl
@[simp] theorem State.pbStore_dhcpEn : (s.pbStore a bs).dhcpEn = s.dhcpEn := by rfl
@[simp] theorem State.pbStore_ipId : (s.pbStore a bs).ipId = s.ipId := by rfl
@[simp] theorem State.pbStore_tcpSeq : (s.pbStore a bs).tcpSeq = s.tcpSeq := by rfl
@[simp] theorem State.pbStore_tcpAck : (s.pbStore a bs).tcpAck = s.tcpAck := by rfl
@[simp] theorem State.pbStore_ctxSrcMac : (s.pbStore a bs).ctxSrcMac = s.ctxSrcMac := by rfl
@[simp] theorem State.pbStore_ctxDstMac : (s.pbStore a bs).ctxDstMac = s.ctxDstMac := by rfl
@[simp] theorem State.pbStore_ctxSrcIp : (s.pbStore a bs).ctxSrcIp = s.ctxSrcIp := by rfl
@[simp] theorem State.pbStore_ctxDstIp : (s.pbStore a bs).ctxDstIp = s.ctxDstIp := by rfl
@[simp] theorem State.pbStore_ctxSrcPort : (s.pbStore a bs).ctxSrcPort = s.ctxSrcPort := by rfl
@[simp] theorem State.pbStore_ctxDstPort : (s.pbStore a bs).ctxDstPort = s.ctxDstPort := by rfl
@[simp] theorem State.pbStore_sum : (s.pbStore a bs).sum = s.sum := by rfl
@[simp] theorem State.pbStore_result : (s.pbStore a bs).result = s.result := by rfl
@[simp] theorem State.pbStore_flags : (s.pbStore a bs).flags = s.flags := by rfl
@[simp] theorem State.pbStore_err : (s.pbStore a bs).err = s.err := by rfl
@[simp] theorem State.pbStore_fsm : (s.pbStore a bs).fsm = s.fsm := by rfl
@[simp] theorem State.pbStore_rxLen : (s.pbStore a bs).rxLen = s.rxLen := by rfl
@[simp] theorem State.pbStore_psbLen : (s.pbStore a bs).psbLen = s.psbLen := by rfl
@[simp] theorem State.pbStore_mqLen : (s.pbStore a bs).mqLen = s.mqLen := by rfl
@[simp] theorem State.pbStore_pb : (s.pbStore a bs).pb = s.pb.setMany a bs := by rfl
@[simp] theorem State.pbStore_psb : (s.pbStore a bs).psb = s.psb := by rfl
@[simp] theorem State.pbStore_params : (s.pbStore a bs).params = s.params := by rfl
@[simp] theorem State.pbStore_inbox : (s.pbStore a bs).inbox = s.inbox := by rfl
@[simp] theorem State.pbStore_txAnswers : (s.pbStore a bs).txAnswers = s.txAnswers := by rfl
@[simp] theorem State.pbStore_ovfAnswers : (s.pbStore a bs).ovfAnswers = s.ovfAnswers := by rfl
@[simp] theorem State.pbStore_draws : (s.pbStore a bs).draws = s.draws := by rfl
@[simp] theorem State.pbStore_epoch : (s.pbStore a bs).epoch = s.epoch := by rfl
@[simp] theorem State.pbStore_txLog : (s.pbStore a bs).txLog = s.txLog := by rfl
@[simp] theorem State.pbStore_responses : (s.pbStore a bs).responses = s.responses := by rfl

end

section

variable (a : Nat) (bs : List Byte)

@[simp] theorem State.psbStore_localMac : (s.psbStore a bs).localMac = s.localMac := by rfl
@[simp] theorem State.psbStore_localIp : (s.psbStore a bs).localIp = s.localIp := by rfl
@[simp] theorem State.psbStore_subnetMask : (s.psbStore a bs).subnetMask = s.subnetMask := by rfl
@[simp] theorem State.psbStore_gatewayIp : (s.psbStore a bs).gatewayIp = s.gatewayIp := by rfl
@[simp] theorem State.psbStore_brokerIp : (s.psbStore a bs).brokerIp = s.brokerIp := by rfl
@[simp] theorem State.psbStore_brokerMac : (s.psbStore a bs).brokerMac = s.brokerMac := by rfl
@[simp] theorem State.psbStore_dhcpEn : (s.psbStore a bs).dhcpEn = s.dhcpEn := by rfl
@[simp] theorem State.psbStore_ipId : (s.psbStore a bs).ipId = s.ipId := by rfl
@[simp] theorem State.psbStore_tcpSeq : (s.psbStore a bs).tcpSeq = s.tcpSeq := by rfl
@[simp] theorem State.psbStore_tcpAck : (s.psbStore a bs).tcpAck = s.tcpAck := by rfl
@[simp] theorem State.psbStore_ctxSrcMac : (s.psbStore a bs).ctxSrcMac = s.ctxSrcMac := by rfl
@[simp] theorem State.psbStore_ctxDstMac : (s.psbStore a bs).ctxDstMac = s.ctxDstMac := by rfl
@[simp] theorem State.psbStore_ctxSrcIp : (s.psbStore a bs).ctxSrcIp = s.ctxSrcIp := by rfl
@[simp] theorem State.psbStore_ctxDstIp : (s.psbStore a bs).ctxDstIp = s.ctxDstIp := by rfl
@[simp] theorem State.psbStore_ctxSrcPort : (s.psbStore a bs).ctxSrcPort = s.ctxSrcPort := by rfl
@[simp] theorem State.psbStore_ctxDstPort : (s.psbStore a bs).ctxDstPort = s.ctxDstPort := by rfl
@[simp] theorem State.psbStore_sum : (s.psbStore a bs).sum = s.sum := by rfl
@[simp] theorem State.psbStore_result : (s.psbStore a bs).result = s.result := by rfl
@[simp] theorem State.psbStore_flags : (s.psbStore a bs).flags = s.flags := by rfl
@[simp] theorem State.psbStore_err : (s.psbStore a bs).err = s.err := by rfl
@[simp] theorem State.psbStore_fsm : (s.psbStore a bs).fsm = s.fsm := by rfl
@[simp] theorem State.psbStore_rxLen : (s.psbStore a bs).rxLen = s.rxLen := by rfl
@[simp] theorem State.psbStore_psbLen : (s.psbStore a bs).psbLen = s.psbLen := by rfl
@[simp] theorem State.psbStore_mqLen : (s.psbStore a bs).mqLen = s.mqLen := by rfl
@[simp] theorem State.psbStore_pb : (s.psbStore a bs).pb = s.pb := by rfl
@[simp] theorem State.psbStore_psb : (s.psbStore a bs).psb = s.psb.setMany a bs := by rfl
@[simp] theorem State.psbStore_params : (s.psbStore a bs).params = s.params := by rfl
@[simp] theorem State.psbStore_inbox : (s.psbStore a bs).inbox = s.inbox := by rfl
@[simp] theorem State.psbStore_txAnswers : (s.psbStore a bs).txAnswers = s.txAnswers := by rfl
@[simp] theorem State.psbStore_ovfAnswers : (s.psbStore a bs).ovfAnswers = s.ovfAnswers := by rfl
@[simp] theorem State.psbStore_draws : (s.psbStore a bs).draws = s.draws := by rfl
@[simp] theorem State.psbStore_epoch : (s.psbStore a bs).epoch = s.epoch := by rfl
@[simp] theorem State.psbStore_txLog : (s.psbStore a bs).txLog = s.txLog := by rfl
@[simp] theorem State.psbStore_responses : (s.psbStore a bs).responses = s.responses := by rfl

end

section

variable (a n v : Nat)

@[simp] theorem State.memWrite_localMac : (s.memWrite a n v).localMac = s.localMac := by rfl
@[simp] theorem State.memWrite_localIp : (s.memWrite a n v).localIp = s.localIp := by rfl
@[simp] theorem State.memWrite_subnetMask : (s.memWrite a n v).subnetMask = s.subnetMask := by rfl
@[simp] theorem State.memWrite_gatewayIp : (s.memWrite a n v).gatewayIp = s.gatewayIp := by rfl
@[simp] theorem State.memWrite_brokerIp : (s.memWrite a n v).brokerIp = s.brokerIp := by rfl
@[simp] theorem State.memWrite_brokerMac : (s.memWrite a n v).brokerMac = s.brokerMac := by rfl
@[simp] theorem State.memWrite_dhcpEn : (s.memWrite a n v).dhcpEn = s.dhcpEn := by rfl
@[simp] theorem State.memWrite_ipId : (s.memWrite a n v).ipId = s.ipId := by rfl
@[simp] theorem State.memWrite_tcpSeq : (s.memWrite a n v).tcpSeq = s.tcpSeq := by rfl
@[simp] theorem State.memWrite_tcpAck : (s.memWrite a n v).tcpAck = s.tcpAck := by rfl
@[simp] theorem State.memWrite_ctxSrcMac : (s.memWrite a n v).ctxSrcMac = s.ctxSrcMac := by rfl
@[simp] theorem State.memWrite_ctxDstMac : (s.memWrite a n v).ctxDstMac = s.ctxDstMac := by rfl
@[simp] theorem State.memWrite_ctxSrcIp : (s.memWrite a n v).ctxSrcIp = s.ctxSrcIp := by rfl
@[simp] theorem State.memWrite_ctxDstIp : (s.memWrite a n v).ctxDstIp = s.ctxDstIp := by rfl
@[simp] theorem State.memWrite_ctxSrcPort : (s.memWrite a n v).ctxSrcPort = s.ctxSrcPort := by rfl
@[simp] theorem State.memWrite_ctxDstPort : (s.memWrite a n v).ctxDstPort = s.ctxDstPort := by rfl
@[simp] theorem State.memWrite_sum : (s.memWrite a n v).sum = s.sum := by rfl
@[simp] theorem State.memWrite_result : (s.memWrite a n v).result = s.result := by rfl
@[simp] theorem State.memWrite_flags : (s.memWrite a n v).flags = s.flags := by rfl
@[simp] theorem State.memWrite_err : (s.memWrite a n v).err = s.err := by rfl
@[simp] theorem State.memWrite_fsm : (s.memWrite a n v).fsm = s.fsm := by rfl
@[simp] theorem State.memWrite_rxLen : (s.memWrite a n v).rxLen = s.rxLen := by rfl
@[simp] theorem State.memWrite_psbLen : (s.memWrite a n v).psbLen = s.psbLen := by rfl
@[simp] theorem State.memWrite_mqLen : (s.memWrite a n v).mqLen = s.mqLen := by rfl
@[simp] theorem State.memWrite_pb : (s.memWrite a n v).pb = s.pb.setMany a (beBytes n v) := by rfl
@[simp] theorem State.memWrite_psb : (s.memWrite a n v).psb = s.psb := by rfl
@[simp] theorem State.memWrite_params : (s.memWrite a n v).params = s.params := by rfl
@[simp] theorem State.memWrite_inbox : (s.memWrite a n v).inbox = s.inbox := by rfl
@[simp] theorem State.memWrite_txAnswers : (s.memWrite a n v).txAnswers = s.txAnswers := by rfl
@[simp] theorem State.memWrite_ovfAnswers : (s.memWrite a n v).ovfAnswers = s.ovfAnswers := by rfl
@[simp] theorem State.memWrite_draws : (s.memWrite a n v).draws = s.draws := by rfl
@[simp] theorem State.memWrite_epoch : (s.memWrite a n v).epoch = s.epoch := by rfl
@[simp] theorem State.memWrite_txLog : (s.memWrite a n v).txLog = s.txLog := by rfl
@[simp] theorem State.memWrite_responses : (s.memWrite a n v).responses = s.responses := by rfl

end

section

variable (f : CmdFault)

@[simp] theorem State.raise_localMac : (s.raise f).localMac = s.localMac := by rfl
@[simp] theorem State.raise_localIp : (s.raise f).localIp = s.localIp := by rfl
@[simp] theorem State.raise_subnetMask : (s.raise f).subnetMask = s.subnetMask := by rfl
@[simp] theorem State.raise_gatewayIp : (s.raise f).gatewayIp = s.gatewayIp := by rfl
@[simp] theorem State.raise_brokerIp : (s.raise f).brokerIp = s.brokerIp := by rfl
@[simp] theorem State.raise_brokerMac : (s.raise f).brokerMac = s.brokerMac := by rfl
@[simp] theorem State.raise_dhcpEn : (s.raise f).dhcpEn = s.dhcpEn := by rfl
@[simp] theorem State.raise_ipId : (s.raise f).ipId = s.ipId := by rfl
@[simp] theorem State.raise_tcpSeq : (s.raise f).tcpSeq = s.tcpSeq := by rfl
@[simp] theorem State.raise_tcpAck : (s.raise f).tcpAck = s.tcpAck := by rfl
@[simp] theorem State.raise_ctxSrcMac : (s.raise f).ctxSrcMac = s.ctxSrcMac := by rfl
@[simp] theorem State.raise_ctxDstMac : (s.raise f).ctxDstMac = s.ctxDstMac := by rfl
@[simp] theorem State.raise_ctxSrcIp : (s.raise f).ctxSrcIp = s.ctxSrcIp := by rfl
@[simp] theorem State.raise_ctxDstIp : (s.raise f).ctxDstIp = s.ctxDstIp := by rfl
@[simp] theorem State.raise_ctxSrcPort : (s.raise f).ctxSrcPort = s.ctxSrcPort := by rfl
@[simp] theorem State.raise_ctxDstPort : (s.raise f).ctxDstPort = s.ctxDstPort := by rfl
@[simp] theorem State.raise_sum : (s.raise f).sum = s.sum := by rfl
@[simp] theorem State.raise_result : (s.raise f).result = s.result := by rfl
@[simp] theorem State.raise_flags : (s.raise f).flags = { s.flags with flt := true } := by rfl
@[simp] theorem State.raise_err : (s.raise f).err = .fault f := by rfl
@[simp] theorem State.raise_fsm : (s.raise f).fsm = s.fsm := by rfl
@[simp] theorem State.raise_rxLen : (s.raise f).rxLen = s.rxLen := by rfl
@[simp] theorem State.raise_psbLen : (s.raise f).psbLen = s.psbLen := by rfl
@[simp] theorem State.raise_mqLen : (s.raise f).mqLen = s.mqLen := by rfl
@[simp] theorem State.raise_pb : (s.raise f).pb = s.pb := by rfl
@[simp] theorem State.raise_psb : (s.raise f).psb = s.psb := by rfl
@[simp] theorem State.raise_params : (s.raise f).params = s.params := by rfl
@[simp] theorem State.raise_inbox : (s.raise f).inbox = s.inbox := by rfl
@[simp] theorem State.raise_txAnswers : (s.raise f).txAnswers = s.txAnswers := by rfl
@[simp] theorem State.raise_ovfAnswers : (s.raise f).ovfAnswers = s.ovfAnswers := by rfl
@[simp] theorem State.raise_draws : (s.raise f).draws = s.draws := by rfl
@[simp] theorem State.raise_epoch : (s.raise f).epoch = s.epoch := by rfl
@[simp] theorem State.raise_txLog : (s.raise f).txLog = s.txLog := by rfl
@[simp] theorem State.raise_responses : (s.raise f).responses = s.responses := by rfl

end

section

@[simp] theorem State.complete_localMac : (s.complete).localMac = s.localMac := by rfl
@[simp] theorem State.complete_localIp : (s.complete).localIp = s.localIp := by rfl
@[simp] theorem State.complete_subnetMask : (s.complete).subnetMask = s.subnetMask := by rfl
@[simp] theorem State.complete_gatewayIp : (s.complete).gatewayIp = s.gatewayIp := by rfl
@[simp] theorem State.complete_brokerIp : (s.complete).brokerIp = s.brokerIp := by rfl
@[simp] theorem State.complete_brokerMac : (s.complete).brokerMac = s.brokerMac := by rfl
@[simp] theorem State.complete_dhcpEn : (s.complete).dhcpEn = s.dhcpEn := by rfl
@[simp] theorem State.complete_ipId : (s.complete).ipId = s.ipId := by rfl
@[simp] theorem State.complete_tcpSeq : (s.complete).tcpSeq = s.tcpSeq := by rfl
@[simp] theorem State.complete_tcpAck : (s.complete).tcpAck = s.tcpAck := by rfl
@[simp] theorem State.complete_ctxSrcMac : (s.complete).ctxSrcMac = s.ctxSrcMac := by rfl
@[simp] theorem State.complete_ctxDstMac : (s.complete).ctxDstMac = s.ctxDstMac := by rfl
@[simp] theorem State.complete_ctxSrcIp : (s.complete).ctxSrcIp = s.ctxSrcIp := by rfl
@[simp] theorem State.complete_ctxDstIp : (s.complete).ctxDstIp = s.ctxDstIp := by rfl
@[simp] theorem State.complete_ctxSrcPort : (s.complete).ctxSrcPort = s.ctxSrcPort := by rfl
@[simp] theorem State.complete_ctxDstPort : (s.complete).ctxDstPort = s.ctxDstPort := by rfl
@[simp] theorem State.complete_sum : (s.complete).sum = s.sum := by rfl
@[simp] theorem State.complete_result : (s.complete).result = s.result := by rfl
@[simp] theorem State.complete_flags : (s.complete).flags = s.flags := by rfl
@[simp] theorem State.complete_err : (s.complete).err = .ok := by rfl
@[simp] theorem State.complete_fsm : (s.complete).fsm = s.fsm := by rfl
@[simp] theorem State.complete_rxLen : (s.complete).rxLen = s.rxLen := by rfl
@[simp] theorem State.complete_psbLen : (s.complete).psbLen = s.psbLen := by rfl
@[simp] theorem State.complete_mqLen : (s.complete).mqLen = s.mqLen := by rfl
@[simp] theorem State.complete_pb : (s.complete).pb = s.pb := by rfl
@[simp] theorem State.complete_psb : (s.complete).psb = s.psb := by rfl
@[simp] theorem State.complete_params : (s.complete).params = s.params := by rfl
@[simp] theorem State.complete_inbox : (s.complete).inbox = s.inbox := by rfl
@[simp] theorem State.complete_txAnswers : (s.complete).txAnswers = s.txAnswers := by rfl
@[simp] theorem State.complete_ovfAnswers : (s.complete).ovfAnswers = s.ovfAnswers := by rfl
@[simp] theorem State.complete_draws : (s.complete).draws = s.draws := by rfl
@[simp] theorem State.complete_epoch : (s.complete).epoch = s.epoch := by rfl
@[simp] theorem State.complete_txLog : (s.complete).txLog = s.txLog := by rfl
@[simp] theorem State.complete_responses : (s.complete).responses = s.responses := by rfl

end

section

variable (v : Nat)

@[simp] theorem State.withResult_localMac : (s.withResult v).localMac = s.localMac := by rfl
@[simp] theorem State.withResult_localIp : (s.withResult v).localIp = s.localIp := by rfl
@[simp] theorem State.withResult_subnetMask : (s.withResult v).subnetMask = s.subnetMask := by rfl
@[simp] theorem State.withResult_gatewayIp : (s.withResult v).gatewayIp = s.gatewayIp := by rfl
@[simp] theorem State.withResult_brokerIp : (s.withResult v).brokerIp = s.brokerIp := by rfl
@[simp] theorem State.withResult_brokerMac : (s.withResult v).brokerMac = s.brokerMac := by rfl
@[simp] theorem State.withResult_dhcpEn : (s.withResult v).dhcpEn = s.dhcpEn := by rfl
@[simp] theorem State.withResult_ipId : (s.withResult v).ipId = s.ipId := by rfl
@[simp] theorem State.withResult_tcpSeq : (s.withResult v).tcpSeq = s.tcpSeq := by rfl
@[simp] theorem State.withResult_tcpAck : (s.withResult v).tcpAck = s.tcpAck := by rfl
@[simp] theorem State.withResult_ctxSrcMac : (s.withResult v).ctxSrcMac = s.ctxSrcMac := by rfl
@[simp] theorem State.withResult_ctxDstMac : (s.withResult v).ctxDstMac = s.ctxDstMac := by rfl
@[simp] theorem State.withResult_ctxSrcIp : (s.withResult v).ctxSrcIp = s.ctxSrcIp := by rfl
@[simp] theorem State.withResult_ctxDstIp : (s.withResult v).ctxDstIp = s.ctxDstIp := by rfl
@[simp] theorem State.withResult_ctxSrcPort : (s.withResult v).ctxSrcPort = s.ctxSrcPort := by rfl
@[simp] theorem State.withResult_ctxDstPort : (s.withResult v).ctxDstPort = s.ctxDstPort := by rfl
@[simp] theorem State.withResult_sum : (s.withResult v).sum = s.sum := by rfl
@[simp] theorem State.withResult_result : (s.withResult v).result = BitVec.ofNat 48 v := by rfl
@[simp] theorem State.withResult_flags : (s.withResult v).flags = s.flags := by rfl
@[simp] theorem State.withResult_err : (s.withResult v).err = s.err := by rfl
@[simp] theorem State.withResult_fsm : (s.withResult v).fsm = s.fsm := by rfl
@[simp] theorem State.withResult_rxLen : (s.withResult v).rxLen = s.rxLen := by rfl
@[simp] theorem State.withResult_psbLen : (s.withResult v).psbLen = s.psbLen := by rfl
@[simp] theorem State.withResult_mqLen : (s.withResult v).mqLen = s.mqLen := by rfl
@[simp] theorem State.withResult_pb : (s.withResult v).pb = s.pb := by rfl
@[simp] theorem State.withResult_psb : (s.withResult v).psb = s.psb := by rfl
@[simp] theorem State.withResult_params : (s.withResult v).params = s.params := by rfl
@[simp] theorem State.withResult_inbox : (s.withResult v).inbox = s.inbox := by rfl
@[simp] theorem State.withResult_txAnswers : (s.withResult v).txAnswers = s.txAnswers := by rfl
@[simp] theorem State.withResult_ovfAnswers : (s.withResult v).ovfAnswers = s.ovfAnswers := by rfl
@[simp] theorem State.withResult_draws : (s.withResult v).draws = s.draws := by rfl
@[simp] theorem State.withResult_epoch : (s.withResult v).epoch = s.epoch := by rfl
@[simp] theorem State.withResult_txLog : (s.withResult v).txLog = s.txLog := by rfl
@[simp] theorem State.withResult_responses : (s.withResult v).responses = s.responses := by rfl

end

section

variable (p : Bool)

@[simp] theorem State.withMatch_localMac : (s.withMatch p).localMac = s.localMac := by rfl
@[simp] theorem State.withMatch_localIp : (s.withMatch p).localIp = s.localIp := by rfl
@[simp] theorem State.withMatch_subnetMask : (s.withMatch p).subnetMask = s.subnetMask := by rfl
@[simp] theorem State.withMatch_gatewayIp : (s.withMatch p).gatewayIp = s.gatewayIp := by rfl
@[simp] theorem State.withMatch_brokerIp : (s.withMatch p).brokerIp = s.brokerIp := by rfl
@[simp] theorem State.withMatch_brokerMac : (s.withMatch p).brokerMac = s.brokerMac := by rfl
@[simp] theorem State.withMatch_dhcpEn : (s.withMatch p).dhcpEn = s.dhcpEn := by rfl
@[simp] theorem State.withMatch_ipId : (s.withMatch p).ipId = s.ipId := by rfl
@[simp] theorem State.withMatch_tcpSeq : (s.withMatch p).tcpSeq = s.tcpSeq := by rfl
@[simp] theorem State.withMatch_tcpAck : (s.withMatch p).tcpAck = s.tcpAck := by rfl
@[simp] theorem State.withMatch_ctxSrcMac : (s.withMatch p).ctxSrcMac = s.ctxSrcMac := by rfl
@[simp] theorem State.withMatch_ctxDstMac : (s.withMatch p).ctxDstMac = s.ctxDstMac := by rfl
@[simp] theorem State.withMatch_ctxSrcIp : (s.withMatch p).ctxSrcIp = s.ctxSrcIp := by rfl
@[simp] theorem State.withMatch_ctxDstIp : (s.withMatch p).ctxDstIp = s.ctxDstIp := by rfl
@[simp] theorem State.withMatch_ctxSrcPort : (s.withMatch p).ctxSrcPort = s.ctxSrcPort := by rfl
@[simp] theorem State.withMatch_ctxDstPort : (s.withMatch p).ctxDstPort = s.ctxDstPort := by rfl
@[simp] theorem State.withMatch_sum : (s.withMatch p).sum = s.sum := by rfl
@[simp] theorem State.withMatch_result : (s.withMatch p).result = s.result := by rfl
@[simp] theorem State.withMatch_flags : (s.withMatch p).flags = { s.flags with matched := p } := by rfl
@[simp] theorem State.withMatch_err : (s.withMatch p).err = s.err := by rfl
@[simp] theorem State.withMatch_fsm : (s.withMatch p).fsm = s.fsm := by rfl
@[simp] theorem State.withMatch_rxLen : (s.withMatch p).rxLen = s.rxLen := by rfl
@[simp] theorem State.withMatch_psbLen : (s.withMatch p).psbLen = s.psbLen := by rfl
@[simp] theorem State.withMatch_mqLen : (s.withMatch p).mqLen = s.mqLen := by rfl
@[simp] theorem State.withMatch_pb : (s.withMatch p).pb = s.pb := by rfl
@[simp] theorem State.withMatch_psb : (s.withMatch p).psb = s.psb := by rfl
@[simp] theorem State.withMatch_params : (s.withMatch p).params = s.params := by rfl
@[simp] theorem State.withMatch_inbox : (s.withMatch p).inbox = s.inbox := by rfl
@[simp] theorem State.withMatch_txAnswers : (s.withMatch p).txAnswers = s.txAnswers := by rfl
@[simp] theorem State.withMatch_ovfAnswers : (s.withMatch p).ovfAnswers = s.ovfAnswers := by rfl
@[simp] theorem State.withMatch_draws : (s.withMatch p).draws = s.draws := by rfl
@[simp] theorem State.withMatch_epoch : (s.withMatch p).epoch = s.epoch := by rfl
@[simp] theorem State.withMatch_txLog : (s.withMatch p).txLog = s.txLog := by rfl
@[simp] theorem State.withMatch_responses : (s.withMatch p).responses = s.responses := by rfl

end

section

variable (n : Nat)

@[simp] theorem State.transmit_localMac : (s.transmit n).localMac = s.localMac := by rfl
@[simp] theorem State.transmit_localIp : (s.transmit n).localIp = s.localIp := by rfl
@[simp] theorem State.transmit_subnetMask : (s.transmit n).subnetMask = s.subnetMask := by rfl
@[simp] theorem State.transmit_gatewayIp : (s.transmit n).gatewayIp = s.gatewayIp := by rfl
@[simp] theorem State.transmit_brokerIp : (s.transmit n).brokerIp = s.brokerIp := by rfl
@[simp] theorem State.transmit_brokerMac : (s.transmit n).brokerMac = s.brokerMac := by rfl
@[simp] theorem State.transmit_dhcpEn : (s.transmit n).dhcpEn = s.dhcpEn := by rfl
@[simp] theorem State.transmit_ipId : (s.transmit n).ipId = s.ipId := by rfl
@[simp] theorem State.transmit_tcpSeq : (s.transmit n).tcpSeq = s.tcpSeq := by rfl
@[simp] theorem State.transmit_tcpAck : (s.transmit n).tcpAck = s.tcpAck := by rfl
@[simp] theorem State.transmit_ctxSrcMac : (s.transmit n).ctxSrcMac = s.ctxSrcMac := by rfl
@[simp] theorem State.transmit_ctxDstMac : (s.transmit n).ctxDstMac = s.ctxDstMac := by rfl
@[simp] theorem State.transmit_ctxSrcIp : (s.transmit n).ctxSrcIp = s.ctxSrcIp := by rfl
@[simp] theorem State.transmit_ctxDstIp : (s.transmit n).ctxDstIp = s.ctxDstIp := by rfl
@[simp] theorem State.transmit_ctxSrcPort : (s.transmit n).ctxSrcPort = s.ctxSrcPort := by rfl
@[simp] theorem State.transmit_ctxDstPort : (s.transmit n).ctxDstPort = s.ctxDstPort := by rfl
@[simp] theorem State.transmit_sum : (s.transmit n).sum = s.sum := by rfl
@[simp] theorem State.transmit_result : (s.transmit n).result = s.result := by rfl
@[simp] theorem State.transmit_flags : (s.transmit n).flags = { s.flags with txok := s.nextTxAnswer } := by rfl
@[simp] theorem State.transmit_err : (s.transmit n).err = if s.nextTxAnswer then .ok else .txAbort := by rfl
@[simp] theorem State.transmit_fsm : (s.transmit n).fsm = s.fsm := by rfl
@[simp] theorem State.transmit_rxLen : (s.transmit n).rxLen = s.rxLen := by rfl
@[simp] theorem State.transmit_psbLen : (s.transmit n).psbLen = s.psbLen := by rfl
@[simp] theorem State.transmit_mqLen : (s.transmit n).mqLen = s.mqLen := by rfl
@[simp] theorem State.transmit_pb : (s.transmit n).pb = s.pb := by rfl
@[simp] theorem State.transmit_psb : (s.transmit n).psb = s.psb := by rfl
@[simp] theorem State.transmit_params : (s.transmit n).params = s.params := by rfl
@[simp] theorem State.transmit_inbox : (s.transmit n).inbox = s.inbox := by rfl
@[simp] theorem State.transmit_txAnswers : (s.transmit n).txAnswers = s.txAnswers.tail := by rfl
@[simp] theorem State.transmit_ovfAnswers : (s.transmit n).ovfAnswers = s.ovfAnswers := by rfl
@[simp] theorem State.transmit_draws : (s.transmit n).draws = s.draws + 1 := by rfl
@[simp] theorem State.transmit_epoch : (s.transmit n).epoch = s.epoch := by rfl
@[simp] theorem State.transmit_txLog : (s.transmit n).txLog = s.txLog ++ [⟨s.pbBytes 0 n, s.nextTxAnswer⟩] := by rfl
@[simp] theorem State.transmit_responses : (s.transmit n).responses = s.responses := by rfl

end

section

@[simp] theorem State.pollOverflow_localMac : (s.pollOverflow).localMac = s.localMac := by rfl
@[simp] theorem State.pollOverflow_localIp : (s.pollOverflow).localIp = s.localIp := by rfl
@[simp] theorem State.pollOverflow_subnetMask : (s.pollOverflow).subnetMask = s.subnetMask := by rfl
@[simp] theorem State.pollOverflow_gatewayIp : (s.pollOverflow).gatewayIp = s.gatewayIp := by rfl
@[simp] theorem State.pollOverflow_brokerIp : (s.pollOverflow).brokerIp = s.brokerIp := by rfl
@[simp] theorem State.pollOverflow_brokerMac : (s.pollOverflow).brokerMac = s.brokerMac := by rfl
@[simp] theorem State.pollOverflow_dhcpEn : (s.pollOverflow).dhcpEn = s.dhcpEn := by rfl
@[simp] theorem State.pollOverflow_ipId : (s.pollOverflow).ipId = s.ipId := by rfl
@[simp] theorem State.pollOverflow_tcpSeq : (s.pollOverflow).tcpSeq = s.tcpSeq := by rfl
@[simp] theorem State.pollOverflow_tcpAck : (s.pollOverflow).tcpAck = s.tcpAck := by rfl
@[simp] theorem State.pollOverflow_ctxSrcMac : (s.pollOverflow).ctxSrcMac = s.ctxSrcMac := by rfl
@[simp] theorem State.pollOverflow_ctxDstMac : (s.pollOverflow).ctxDstMac = s.ctxDstMac := by rfl
@[simp] theorem State.pollOverflow_ctxSrcIp : (s.pollOverflow).ctxSrcIp = s.ctxSrcIp := by rfl
@[simp] theorem State.pollOverflow_ctxDstIp : (s.pollOverflow).ctxDstIp = s.ctxDstIp := by rfl
@[simp] theorem State.pollOverflow_ctxSrcPort : (s.pollOverflow).ctxSrcPort = s.ctxSrcPort := by rfl
@[simp] theorem State.pollOverflow_ctxDstPort : (s.pollOverflow).ctxDstPort = s.ctxDstPort := by rfl
@[simp] theorem State.pollOverflow_sum : (s.pollOverflow).sum = s.sum := by rfl
@[simp] theorem State.pollOverflow_result : (s.pollOverflow).result = s.result := by rfl
@[simp] theorem State.pollOverflow_flags : (s.pollOverflow).flags = { s.flags with ovf := s.nextOvfAnswer } := by rfl
@[simp] theorem State.pollOverflow_err : (s.pollOverflow).err = s.err := by rfl
@[simp] theorem State.pollOverflow_fsm : (s.pollOverflow).fsm = s.fsm := by rfl
@[simp] theorem State.pollOverflow_rxLen : (s.pollOverflow).rxLen = s.rxLen := by rfl
@[simp] theorem State.pollOverflow_psbLen : (s.pollOverflow).psbLen = s.psbLen := by rfl
@[simp] theorem State.pollOverflow_mqLen : (s.pollOverflow).mqLen = s.mqLen := by rfl
@[simp] theorem State.pollOverflow_pb : (s.pollOverflow).pb = s.pb := by rfl
@[simp] theorem State.pollOverflow_psb : (s.pollOverflow).psb = s.psb := by rfl
@[simp] theorem State.pollOverflow_params : (s.pollOverflow).params = s.params := by rfl
@[simp] theorem State.pollOverflow_inbox : (s.pollOverflow).inbox = s.inbox := by rfl
@[simp] theorem State.pollOverflow_txAnswers : (s.pollOverflow).txAnswers = s.txAnswers := by rfl
@[simp] theorem State.pollOverflow_ovfAnswers : (s.pollOverflow).ovfAnswers = s.ovfAnswers.tail := by rfl
@[simp] theorem State.pollOverflow_draws : (s.pollOverflow).draws = s.draws + 1 := by rfl
@[simp] theorem State.pollOverflow_epoch : (s.pollOverflow).epoch = s.epoch := by rfl
@[simp] theorem State.pollOverflow_txLog : (s.pollOverflow).txLog = s.txLog := by rfl
@[simp] theorem State.pollOverflow_responses : (s.pollOverflow).responses = s.responses := by rfl

end

section

@[simp] theorem State.respond_localMac : (s.respond).localMac = s.localMac := by rfl
@[simp] theorem State.respond_localIp : (s.respond).localIp = s.localIp := by rfl
@[simp] theorem State.respond_subnetMask : (s.respond).subnetMask = s.subnetMask := by rfl
@[simp] theorem State.respond_gatewayIp : (s.respond).gatewayIp = s.gatewayIp := by rfl
@[simp] theorem State.respond_brokerIp : (s.respond).brokerIp = s.brokerIp := by rfl
@[simp] theorem State.respond_brokerMac : (s.respond).brokerMac = s.brokerMac := by rfl
@[simp] theorem State.respond_dhcpEn : (s.respond).dhcpEn = s.dhcpEn := by rfl
@[simp] theorem State.respond_ipId : (s.respond).ipId = s.ipId := by rfl
@[simp] theorem State.respond_tcpSeq : (s.respond).tcpSeq = s.tcpSeq := by rfl
@[simp] theorem State.respond_tcpAck : (s.respond).tcpAck = s.tcpAck := by rfl
@[simp] theorem State.respond_ctxSrcMac : (s.respond).ctxSrcMac = s.ctxSrcMac := by rfl
@[simp] theorem State.respond_ctxDstMac : (s.respond).ctxDstMac = s.ctxDstMac := by rfl
@[simp] theorem State.respond_ctxSrcIp : (s.respond).ctxSrcIp = s.ctxSrcIp := by rfl
@[simp] theorem State.respond_ctxDstIp : (s.respond).ctxDstIp = s.ctxDstIp := by rfl
@[simp] theorem State.respond_ctxSrcPort : (s.respond).ctxSrcPort = s.ctxSrcPort := by rfl
@[simp] theorem State.respond_ctxDstPort : (s.respond).ctxDstPort = s.ctxDstPort := by rfl
@[simp] theorem State.respond_sum : (s.respond).sum = s.sum := by rfl
@[simp] theorem State.respond_result : (s.respond).result = s.result := by rfl
@[simp] theorem State.respond_flags : (s.respond).flags = s.flags := by rfl
@[simp] theorem State.respond_err : (s.respond).err = s.err := by rfl
@[simp] theorem State.respond_fsm : (s.respond).fsm = s.fsm := by rfl
@[simp] theorem State.respond_rxLen : (s.respond).rxLen = s.rxLen := by rfl
@[simp] theorem State.respond_psbLen : (s.respond).psbLen = s.psbLen := by rfl
@[simp] theorem State.respond_mqLen : (s.respond).mqLen = s.mqLen := by rfl
@[simp] theorem State.respond_pb : (s.respond).pb = s.pb := by rfl
@[simp] theorem State.respond_psb : (s.respond).psb = s.psb := by rfl
@[simp] theorem State.respond_params : (s.respond).params = s.params := by rfl
@[simp] theorem State.respond_inbox : (s.respond).inbox = s.inbox := by rfl
@[simp] theorem State.respond_txAnswers : (s.respond).txAnswers = s.txAnswers := by rfl
@[simp] theorem State.respond_ovfAnswers : (s.respond).ovfAnswers = s.ovfAnswers := by rfl
@[simp] theorem State.respond_draws : (s.respond).draws = s.draws := by rfl
@[simp] theorem State.respond_epoch : (s.respond).epoch = s.epoch := by rfl
@[simp] theorem State.respond_txLog : (s.respond).txLog = s.txLog := by rfl
@[simp] theorem State.respond_responses : (s.respond).responses = s.responses ++ [⟨s.err, s.flags, s.result⟩] := by rfl

end

section

@[simp] theorem State.loadContext_localMac : (s.loadContext).localMac = s.localMac := by rfl
@[simp] theorem State.loadContext_localIp : (s.loadContext).localIp = s.localIp := by rfl
@[simp] theorem State.loadContext_subnetMask : (s.loadContext).subnetMask = s.subnetMask := by rfl
@[simp] theorem State.loadContext_gatewayIp : (s.loadContext).gatewayIp = s.gatewayIp := by rfl
@[simp] theorem State.loadContext_brokerIp : (s.loadContext).brokerIp = s.brokerIp := by rfl
@[simp] theorem State.loadContext_brokerMac : (s.loadContext).brokerMac = s.brokerMac := by rfl
@[simp] theorem State.loadContext_dhcpEn : (s.loadContext).dhcpEn = s.dhcpEn := by rfl
@[simp] theorem State.loadContext_ipId : (s.loadContext).ipId = s.ipId := by rfl
@[simp] theorem State.loadContext_tcpSeq : (s.loadContext).tcpSeq = s.tcpSeq := by rfl
@[simp] theorem State.loadContext_tcpAck : (s.loadContext).tcpAck = s.tcpAck := by rfl
@[simp] theorem State.loadContext_ctxSrcMac : (s.loadContext).ctxSrcMac = s.localMac := by rfl
@[simp] theorem State.loadContext_ctxDstMac : (s.loadContext).ctxDstMac = s.brokerMac := by rfl
@[simp] theorem State.loadContext_ctxSrcIp : (s.loadContext).ctxSrcIp = s.localIp := by rfl
@[simp] theorem State.loadContext_ctxDstIp : (s.loadContext).ctxDstIp = s.brokerIp := by rfl
@[simp] theorem State.loadContext_ctxSrcPort : (s.loadContext).ctxSrcPort = s.ctxSrcPort := by rfl
@[simp] theorem State.loadContext_ctxDstPort : (s.loadContext).ctxDstPort = 1883 := by rfl
@[simp] theorem State.loadContext_sum : (s.loadContext).sum = s.sum := by rfl
@[simp] theorem State.loadContext_result : (s.loadContext).result = s.result := by rfl
@[simp] theorem State.loadContext_flags : (s.loadContext).flags = s.flags := by rfl
@[simp] theorem State.loadContext_err : (s.loadContext).err = s.err := by rfl
@[simp] theorem State.loadContext_fsm : (s.loadContext).fsm = s.fsm := by rfl
@[simp] theorem State.loadContext_rxLen : (s.loadContext).rxLen = s.rxLen := by rfl
@[simp] theorem State.loadContext_psbLen : (s.loadContext).psbLen = s.psbLen := by rfl
@[simp] theorem State.loadContext_mqLen : (s.loadContext).mqLen = s.mqLen := by rfl
@[simp] theorem State.loadContext_pb : (s.loadContext).pb = s.pb := by rfl
@[simp] theorem State.loadContext_psb : (s.loadContext).psb = s.psb := by rfl
@[simp] theorem State.loadContext_params : (s.loadContext).params = s.params := by rfl
@[simp] theorem State.loadContext_inbox : (s.loadContext).inbox = s.inbox := by rfl
@[simp] theorem State.loadContext_txAnswers : (s.loadContext).txAnswers = s.txAnswers := by rfl
@[simp] theorem State.loadContext_ovfAnswers : (s.loadContext).ovfAnswers = s.ovfAnswers := by rfl
@[simp] theorem State.loadContext_draws : (s.loadContext).draws = s.draws := by rfl
@[simp] theorem State.loadContext_epoch : (s.loadContext).epoch = s.epoch := by rfl
@[simp] theorem State.loadContext_txLog : (s.loadContext).txLog = s.txLog := by rfl
@[simp] theorem State.loadContext_responses : (s.loadContext).responses = s.responses := by rfl

end

section

variable (q : FsmState)

@[simp] theorem State.advance_localMac : (s.advance q).localMac = s.localMac := by simp [State.advance]
@[simp] theorem State.advance_localIp : (s.advance q).localIp = s.localIp := by simp [State.advance]
@[simp] theorem State.advance_subnetMask : (s.advance q).subnetMask = s.subnetMask := by simp [State.advance]
@[simp] theorem State.advance_gatewayIp : (s.advance q).gatewayIp = s.gatewayIp := by simp [State.advance]
@[simp] theorem State.advance_brokerIp : (s.advance q).brokerIp = s.brokerIp := by simp [State.advance]
@[simp] theorem State.advance_brokerMac : (s.advance q).brokerMac = s.brokerMac := by simp [State.advance]
@[simp] theorem State.advance_dhcpEn : (s.advance q).dhcpEn = s.dhcpEn := by simp [State.advance]
@[simp] theorem State.advance_ipId : (s.advance q).ipId = s.ipId := by simp [State.advance]
@[simp] theorem State.advance_tcpSeq : (s.advance q).tcpSeq = s.tcpSeq := by simp [State.advance]
@[simp] theorem State.advance_tcpAck : (s.advance q).tcpAck = s.tcpAck := by simp [State.advance]
@[simp] theorem State.advance_ctxSrcMac : (s.advance q).ctxSrcMac = s.ctxSrcMac := by simp [State.advance]
@[simp] theorem State.advance_ctxDstMac : (s.advance q).ctxDstMac = s.ctxDstMac := by simp [State.advance]
@[simp] theorem State.advance_ctxSrcIp : (s.advance q).ctxSrcIp = s.ctxSrcIp := by simp [State.advance]
@[simp] theorem State.advance_ctxDstIp : (s.advance q).ctxDstIp = s.ctxDstIp := by simp [State.advance]
@[simp] theorem State.advance_ctxSrcPort : (s.advance q).ctxSrcPort = s.ctxSrcPort := by simp [State.advance]
@[simp] theorem State.advance_ctxDstPort : (s.advance q).ctxDstPort = s.ctxDstPort := by simp [State.advance]
@[simp] theorem State.advance_sum : (s.advance q).sum = s.sum := by simp [State.advance]
@[simp] theorem State.advance_result : (s.advance q).result = s.result := by simp [State.advance]
@[simp] theorem State.advance_flags : (s.advance q).flags = { s.flags with matched := true } := by simp [State.advance]
@[simp] theorem State.advance_err : (s.advance q).err = s.err := by simp [State.advance]
@[simp] theorem State.advance_fsm : (s.advance q).fsm = q := by simp [State.advance]
@[simp] theorem State.advance_rxLen : (s.advance q).rxLen = s.rxLen := by simp [State.advance]
@[simp] theorem State.advance_psbLen : (s.advance q).psbLen = s.psbLen := by simp [State.advance]
@[simp] theorem State.advance_mqLen : (s.advance q).mqLen = s.mqLen := by simp [State.advance]
@[simp] theorem State.advance_pb : (s.advance q).pb = s.pb := by simp [State.advance]
@[simp] theorem State.advance_psb : (s.advance q).psb = s.psb := by simp [State.advance]
@[simp] theorem State.advance_params : (s.advance q).params = s.params := by simp [State.advance]
@[simp] theorem State.advance_inbox : (s.advance q).inbox = s.inbox := by simp [State.advance]
@[simp] theorem State.advance_txAnswers : (s.advance q).txAnswers = s.txAnswers := by simp [State.advance]
@[simp] theorem State.advance_ovfAnswers : (s.advance q).ovfAnswers = s.ovfAnswers := by simp [State.advance]
@[simp] theorem State.advance_draws : (s.advance q).draws = s.draws := by simp [State.advance]
@[simp] theorem State.advance_epoch : (s.advance q).epoch = s.epoch := by simp [State.advance]
@[simp] theorem State.advance_txLog : (s.advance q).txLog = s.txLog := by simp [State.advance]
@[simp] theorem State.advance_responses : (s.advance q).responses = s.responses := by simp [State.advance]

end

section

@[simp] theorem State.stay_localMac : (s.stay).localMac = s.localMac := by simp [State.stay]
@[simp] theorem State.stay_localIp : (s.stay).localIp = s.localIp := by simp [State.stay]
@[simp] theorem State.stay_subnetMask : (s.stay).subnetMask = s.subnetMask := by simp [State.stay]
@[simp] theorem State.stay_gatewayIp : (s.stay).gatewayIp = s.gatewayIp := by simp [State.stay]
@[simp] theorem State.stay_brokerIp : (s.stay).brokerIp = s.brokerIp := by simp [State.stay]
@[simp] theorem State.stay_brokerMac : (s.stay).brokerMac = s.brokerMac := by simp [State.stay]
@[simp] theorem State.stay_dhcpEn : (s.stay).dhcpEn = s.dhcpEn := by simp [State.stay]
@[simp] theorem State.stay_ipId : (s.stay).ipId = s.ipId := by simp [State.stay]
@[simp] theorem State.stay_tcpSeq : (s.stay).tcpSeq = s.tcpSeq := by simp [State.stay]
@[simp] theorem State.stay_tcpAck : (s.stay).tcpAck = s.tcpAck := by simp [State.stay]
@[simp] theorem State.stay_ctxSrcMac : (s.stay).ctxSrcMac = s.ctxSrcMac := by simp [State.stay]
@[simp] theorem State.stay_ctxDstMac : (s.stay).ctxDstMac = s.ctxDstMac := by simp [State.stay]
@[simp] theorem State.stay_ctxSrcIp : (s.stay).ctxSrcIp = s.ctxSrcIp := by simp [State.stay]
@[simp] theorem State.stay_ctxDstIp : (s.stay).ctxDstIp = s.ctxDstIp := by simp [State.stay]
@[simp] theorem State.stay_ctxSrcPort : (s.stay).ctxSrcPort = s.ctxSrcPort := by simp [State.stay]
@[simp] theorem State.stay_ctxDstPort : (s.stay).ctxDstPort = s.ctxDstPort := by simp [State.stay]
@[simp] theorem State.stay_sum : (s.stay).sum = s.sum := by simp [State.stay]
@[simp] theorem State.stay_result : (s.stay).result = s.result := by simp [State.stay]
@[simp] theorem State.stay_flags : (s.stay).flags = { s.flags with matched := false } := by simp [State.stay]
@[simp] theorem State.stay_err : (s.stay).err = .ok := by simp [State.stay]
@[simp] theorem State.stay_fsm : (s.stay).fsm = s.fsm := by simp [State.stay]
@[simp] theorem State.stay_rxLen : (s.stay).rxLen = s.rxLen := by simp [State.stay]
@[simp] theorem State.stay_psbLen : (s.stay).psbLen = s.psbLen := by simp [State.stay]
@[simp] theorem State.stay_mqLen : (s.stay).mqLen = s.mqLen := by simp [State.stay]
@[simp] theorem State.stay_pb : (s.stay).pb = s.pb := by simp [State.stay]
@[simp] theorem State.stay_psb : (s.stay).psb = s.psb := by simp [State.stay]
@[simp] theorem State.stay_params : (s.stay).params = s.params := by simp [State.stay]
@[simp] theorem State.stay_inbox : (s.stay).inbox = s.inbox := by simp [State.stay]
@[simp] theorem State.stay_txAnswers : (s.stay).txAnswers = s.txAnswers := by simp [State.stay]
@[simp] theorem State.stay_ovfAnswers : (s.stay).ovfAnswers = s.ovfAnswers := by simp [State.stay]
@[simp] theorem State.stay_draws : (s.stay).draws = s.draws := by simp [State.stay]
@[simp] theorem State.stay_epoch : (s.stay).epoch = s.epoch := by simp [State.stay]
@[simp] theorem State.stay_txLog : (s.stay).txLog = s.txLog := by simp [State.stay]
@[simp] theorem State.stay_responses : (s.stay).responses = s.responses := by simp [State.stay]

end

section

variable (p : Bool)

@[simp] theorem State.classify_localMac : (s.classify p).localMac = s.localMac := by simp [State.classify]
@[simp] theorem State.classify_localIp : (s.classify p).localIp = s.localIp := by simp [State.classify]
@[simp] theorem State.classify_subnetMask : (s.classify p).subnetMask = s.subnetMask := by simp [State.classify]
@[simp] theorem State.classify_gatewayIp : (s.classify p).gatewayIp = s.gatewayIp := by simp [State.classify]
@[simp] theorem State.classify_brokerIp : (s.classify p).brokerIp = s.brokerIp := by simp [State.classify]
@[simp] theorem State.classify_brokerMac : (s.classify p).brokerMac = s.brokerMac := by simp [State.classify]
@[simp] theorem State.classify_dhcpEn : (s.classify p).dhcpEn = s.dhcpEn := by simp [State.classify]
@[simp] theorem State.classify_ipId : (s.classify p).ipId = s.ipId := by simp [State.classify]
@[simp] theorem State.classify_tcpSeq : (s.classify p).tcpSeq = s.tcpSeq := by simp [State.classify]
@[simp] theorem State.classify_tcpAck : (s.classify p).tcpAck = s.tcpAck := by simp [State.classify]
@[simp] theorem State.classify_ctxSrcMac : (s.classify p).ctxSrcMac = s.ctxSrcMac := by simp [State.classify]
@[simp] theorem State.classify_ctxDstMac : (s.classify p).ctxDstMac = s.ctxDstMac := by simp [State.classify]
@[simp] theorem State.classify_ctxSrcIp : (s.classify p).ctxSrcIp = s.ctxSrcIp := by simp [State.classify]
@[simp] theorem State.classify_ctxDstIp : (s.classify p).ctxDstIp = s.ctxDstIp := by simp [State.classify]
@[simp] theorem State.classify_ctxSrcPort : (s.classify p).ctxSrcPort = s.ctxSrcPort := by simp [State.classify]
@[simp] theorem State.classify_ctxDstPort : (s.classify p).ctxDstPort = s.ctxDstPort := by simp [State.classify]
@[simp] theorem State.classify_sum : (s.classify p).sum = s.sum := by simp [State.classify]
@[simp] theorem State.classify_result : (s.classify p).result = s.result := by simp [State.classify]
@[simp] theorem State.classify_flags : (s.classify p).flags = { s.flags with matched := p } := by simp [State.classify]
@[simp] theorem State.classify_err : (s.classify p).err = .ok := by simp [State.classify]
@[simp] theorem State.classify_fsm : (s.classify p).fsm = s.fsm := by simp [State.classify]
@[simp] theorem State.classify_rxLen : (s.classify p).rxLen = s.rxLen := by simp [State.classify]
@[simp] theorem State.classify_psbLen : (s.classify p).psbLen = s.psbLen := by simp [State.classify]
@[simp] theorem State.classify_mqLen : (s.classify p).mqLen = s.mqLen := by simp [State.classify]
@[simp] theorem State.classify_pb : (s.classify p).pb = s.pb := by simp [State.classify]
@[simp] theorem State.classify_psb : (s.classify p).psb = s.psb := by simp [State.classify]
@[simp] theorem State.classify_params : (s.classify p).params = s.params := by simp [State.classify]
@[simp] theorem State.classify_inbox : (s.classify p).inbox = s.inbox := by simp [State.classify]
@[simp] theorem State.classify_txAnswers : (s.classify p).txAnswers = s.txAnswers := by simp [State.classify]
@[simp] theorem State.classify_ovfAnswers : (s.classify p).ovfAnswers = s.ovfAnswers := by simp [State.classify]
@[simp] theorem State.classify_draws : (s.classify p).draws = s.draws := by simp [State.classify]
@[simp] theorem State.classify_epoch : (s.classify p).epoch = s.epoch := by simp [State.classify]
@[simp] theorem State.classify_txLog : (s.classify p).txLog = s.txLog := by simp [State.classify]
@[simp] theorem State.classify_responses : (s.classify p).responses = s.responses := by simp [State.classify]

end

section

variable (f : Nat) (sumOf : State → BitVec 32)

@[simp] theorem State.inject_localMac : (s.inject f sumOf).localMac = s.localMac := by simp [State.inject]
@[simp] theorem State.inject_localIp : (s.inject f sumOf).localIp = s.localIp := by simp [State.inject]
@[simp] theorem State.inject_subnetMask : (s.inject f sumOf).subnetMask = s.subnetMask := by simp [State.inject]
@[simp] theorem State.inject_gatewayIp : (s.inject f sumOf).gatewayIp = s.gatewayIp := by simp [State.inject]
@[simp] theorem State.inject_brokerIp : (s.inject f sumOf).brokerIp = s.brokerIp := by simp [State.inject]
@[simp] theorem State.inject_brokerMac : (s.inject f sumOf).brokerMac = s.brokerMac := by simp [State.inject]
@[simp] theorem State.inject_dhcpEn : (s.inject f sumOf).dhcpEn = s.dhcpEn := by simp [State.inject]
@[simp] theorem State.inject_ipId : (s.inject f sumOf).ipId = s.ipId := by simp [State.inject]
@[simp] theorem State.inject_tcpSeq : (s.inject f sumOf).tcpSeq = s.tcpSeq := by simp [State.inject]
@[simp] theorem State.inject_tcpAck : (s.inject f sumOf).tcpAck = s.tcpAck := by simp [State.inject]
@[simp] theorem State.inject_ctxSrcMac : (s.inject f sumOf).ctxSrcMac = s.ctxSrcMac := by simp [State.inject]
@[simp] theorem State.inject_ctxDstMac : (s.inject f sumOf).ctxDstMac = s.ctxDstMac := by simp [State.inject]
@[simp] theorem State.inject_ctxSrcIp : (s.inject f sumOf).ctxSrcIp = s.ctxSrcIp := by simp [State.inject]
@[simp] theorem State.inject_ctxDstIp : (s.inject f sumOf).ctxDstIp = s.ctxDstIp := by simp [State.inject]
@[simp] theorem State.inject_ctxSrcPort : (s.inject f sumOf).ctxSrcPort = s.ctxSrcPort := by simp [State.inject]
@[simp] theorem State.inject_ctxDstPort : (s.inject f sumOf).ctxDstPort = s.ctxDstPort := by simp [State.inject]
@[simp] theorem State.inject_sum : (s.inject f sumOf).sum = s.sum := by simp [State.inject]
@[simp] theorem State.inject_result : (s.inject f sumOf).result = s.result := by simp [State.inject]
@[simp] theorem State.inject_flags : (s.inject f sumOf).flags = s.flags := by simp [State.inject]
@[simp] theorem State.inject_err : (s.inject f sumOf).err = s.err := by simp [State.inject]
@[simp] theorem State.inject_fsm : (s.inject f sumOf).fsm = s.fsm := by simp [State.inject]
@[simp] theorem State.inject_rxLen : (s.inject f sumOf).rxLen = s.rxLen := by simp [State.inject]
@[simp] theorem State.inject_psbLen : (s.inject f sumOf).psbLen = s.psbLen := by simp [State.inject]
@[simp] theorem State.inject_mqLen : (s.inject f sumOf).mqLen = s.mqLen := by simp [State.inject]
@[simp] theorem State.inject_psb : (s.inject f sumOf).psb = s.psb := by simp [State.inject]
@[simp] theorem State.inject_params : (s.inject f sumOf).params = s.params := by simp [State.inject]
@[simp] theorem State.inject_inbox : (s.inject f sumOf).inbox = s.inbox := by simp [State.inject]
@[simp] theorem State.inject_txAnswers : (s.inject f sumOf).txAnswers = s.txAnswers := by simp [State.inject]
@[simp] theorem State.inject_ovfAnswers : (s.inject f sumOf).ovfAnswers = s.ovfAnswers := by simp [State.inject]
@[simp] theorem State.inject_draws : (s.inject f sumOf).draws = s.draws := by simp [State.inject]
@[simp] theorem State.inject_epoch : (s.inject f sumOf).epoch = s.epoch := by simp [State.inject]
@[simp] theorem State.inject_txLog : (s.inject f sumOf).txLog = s.txLog := by simp [State.inject]
@[simp] theorem State.inject_responses : (s.inject f sumOf).responses = s.responses := by simp [State.inject]

end

section

variable (f : Nat) (sumOf : State → BitVec 32)

@[simp] theorem State.injectCommand_localMac : (s.injectCommand f sumOf).localMac = s.localMac := by simp [State.injectCommand]
@[simp] theorem State.injectCommand_localIp : (s.injectCommand f sumOf).localIp = s.localIp := by simp [State.injectCommand]
@[simp] theorem State.injectCommand_subnetMask : (s.injectCommand f sumOf).subnetMask = s.subnetMask := by simp [State.injectCommand]
@[simp] theorem State.injectCommand_gatewayIp : (s.injectCommand f sumOf).gatewayIp = s.gatewayIp := by simp [State.injectCommand]
@[simp] theorem State.injectCommand_brokerIp : (s.injectCommand f sumOf).brokerIp = s.brokerIp := by simp [State.injectCommand]
@[simp] theorem State.injectCommand_brokerMac : (s.injectCommand f sumOf).brokerMac = s.brokerMac := by simp [State.injectCommand]
@[simp] theorem State.injectCommand_dhcpEn : (s.injectCommand f sumOf).dhcpEn = s.dhcpEn := by simp [State.injectCommand]
@[simp] theorem State.injectCommand_ipId : (s.injectCommand f sumOf).ipId = s.ipId := by simp [State.injectCommand]
@[simp] theorem State.injectCommand_tcpSeq : (s.injectCommand f sumOf).tcpSeq = s.tcpSeq := by simp [State.injectCommand]
@[simp] theorem State.injectCommand_tcpAck : (s.injectCommand f sumOf).tcpAck = s.tcpAck := by simp [State.injectCommand]
@[simp] theorem State.injectCommand_ctxSrcMac : (s.injectCommand f sumOf).ctxSrcMac = s.ctxSrcMac := by simp [State.injectCommand]
@[simp] theorem State.injectCommand_ctxDstMac : (s.injectCommand f sumOf).ctxDstMac = s.ctxDstMac := by simp [State.injectCommand]
@[simp] theorem State.injectCommand_ctxSrcIp : (s.injectCommand f sumOf).ctxSrcIp = s.ctxSrcIp := by simp [State.injectCommand]
@[simp] theorem State.injectCommand_ctxDstIp : (s.injectCommand f sumOf).ctxDstIp = s.ctxDstIp := by simp [State.injectCommand]
@[simp] theorem State.injectCommand_ctxSrcPort : (s.injectCommand f sumOf).ctxSrcPort = s.ctxSrcPort := by simp [State.injectCommand]
@[simp] theorem State.injectCommand_ctxDstPort : (s.injectCommand f sumOf).ctxDstPort = s.ctxDstPort := by simp [State.injectCommand]
@[simp] theorem State.injectCommand_sum : (s.injectCommand f sumOf).sum = s.sum := by simp [State.injectCommand]
@[simp] theorem State.injectCommand_result : (s.injectCommand f sumOf).result = BitVec.ofNat 48 (s.checksumFor f sumOf).toNat := by simp [State.injectCommand]
@[simp] theorem State.injectCommand_flags : (s.injectCommand f sumOf).flags = s.flags := by simp [State.injectCommand]
@[simp] theorem State.injectCommand_err : (s.injectCommand f sumOf).err = .ok := by simp [State.injectCommand]
@[simp] theorem State.injectCommand_fsm : (s.injectCommand f sumOf).fsm = s.fsm := by simp [State.injectCommand]
@[simp] theorem State.injectCommand_rxLen : (s.injectCommand f sumOf).rxLen = s.rxLen := by simp [State.injectCommand]
@[simp] theorem State.injectCommand_psbLen : (s.injectCommand f sumOf).psbLen = s.psbLen := by simp [State.injectCommand]
@[simp] theorem State.injectCommand_mqLen : (s.injectCommand f sumOf).mqLen = s.mqLen := by simp [State.injectCommand]
@[simp] theorem State.injectCommand_pb : (s.injectCommand f sumOf).pb = (s.inject f sumOf).pb := by simp [State.injectCommand]
@[simp] theorem State.injectCommand_psb : (s.injectCommand f sumOf).psb = s.psb := by simp [State.injectCommand]
@[simp] theorem State.injectCommand_params : (s.injectCommand f sumOf).params = s.params := by simp [State.injectCommand]
@[simp] theorem State.injectCommand_inbox : (s.injectCommand f sumOf).inbox = s.inbox := by simp [State.injectCommand]
@[simp] theorem State.injectCommand_txAnswers : (s.injectCommand f sumOf).txAnswers = s.txAnswers := by simp [State.injectCommand]
@[simp] theorem State.injectCommand_ovfAnswers : (s.injectCommand f sumOf).ovfAnswers = s.ovfAnswers := by simp [State.injectCommand]
@[simp] theorem State.injectCommand_draws : (s.injectCommand f sumOf).draws = s.draws := by simp [State.injectCommand]
@[simp] theorem State.injectCommand_epoch : (s.injectCommand f sumOf).epoch = s.epoch := by simp [State.injectCommand]
@[simp] theorem State.injectCommand_txLog : (s.injectCommand f sumOf).txLog = s.txLog := by simp [State.injectCommand]
@[simp] theorem State.injectCommand_responses : (s.injectCommand f sumOf).responses = s.responses := by simp [State.injectCommand]

end

section

variable (bs : List Byte)

@[simp] theorem State.construct_localMac : (s.construct bs).localMac = s.localMac := by simp [State.construct]
@[simp] theorem State.construct_localIp : (s.construct bs).localIp = s.localIp := by simp [State.construct]
@[simp] theorem State.construct_subnetMask : (s.construct bs).subnetMask = s.subnetMask := by simp [State.construct]
@[simp] theorem State.construct_gatewayIp : (s.construct bs).gatewayIp = s.gatewayIp := by simp [State.construct]
@[simp] theorem State.construct_brokerIp : (s.construct bs).brokerIp = s.brokerIp := by simp [State.construct]
@[simp] theorem State.construct_brokerMac : (s.construct bs).brokerMac = s.brokerMac := by simp [State.construct]
@[simp] theorem State.construct_dhcpEn : (s.construct bs).dhcpEn = s.dhcpEn := by simp [State.construct]
@[simp] theorem State.construct_ipId : (s.construct bs).ipId = s.ipId := by simp [State.construct]
@[simp] theorem State.construct_tcpSeq : (s.construct bs).tcpSeq = s.tcpSeq := by simp [State.construct]
@[simp] theorem State.construct_tcpAck : (s.construct bs).tcpAck = s.tcpAck := by simp [State.construct]
@[simp] theorem State.construct_ctxSrcMac : (s.construct bs).ctxSrcMac = s.ctxSrcMac := by simp [State.construct]
@[simp] theorem State.construct_ctxDstMac : (s.construct bs).ctxDstMac = s.ctxDstMac := by simp [State.construct]
@[simp] theorem State.construct_ctxSrcIp : (s.construct bs).ctxSrcIp = s.ctxSrcIp := by simp [State.construct]
@[simp] theorem State.construct_ctxDstIp : (s.construct bs).ctxDstIp = s.ctxDstIp := by simp [State.construct]
@[simp] theorem State.construct_ctxSrcPort : (s.construct bs).ctxSrcPort = s.ctxSrcPort := by simp [State.construct]
@[simp] theorem State.construct_ctxDstPort : (s.construct bs).ctxDstPort = s.ctxDstPort := by simp [State.construct]
@[simp] theorem State.construct_sum : (s.construct bs).sum = s.sum := by simp [State.construct]
@[simp] theorem State.construct_result : (s.construct bs).result = BitVec.ofNat 48 bs.length := by simp [State.construct]
@[simp] theorem State.construct_flags : (s.construct bs).flags = s.flags := by simp [State.construct]
@[simp] theorem State.construct_err : (s.construct bs).err = .ok := by simp [State.construct]
@[simp] theorem State.construct_fsm : (s.construct bs).fsm = s.fsm := by simp [State.construct]
@[simp] theorem State.construct_rxLen : (s.construct bs).rxLen = s.rxLen := by simp [State.construct]
@[simp] theorem State.construct_psbLen : (s.construct bs).psbLen = BitVec.ofNat 16 bs.length := by simp [State.construct]
@[simp] theorem State.construct_mqLen : (s.construct bs).mqLen = s.mqLen := by simp [State.construct]
@[simp] theorem State.construct_pb : (s.construct bs).pb = s.pb := by simp [State.construct]
@[simp] theorem State.construct_psb : (s.construct bs).psb = (s.psbStore 0 bs).psb := by simp [State.construct]
@[simp] theorem State.construct_params : (s.construct bs).params = s.params := by simp [State.construct]
@[simp] theorem State.construct_inbox : (s.construct bs).inbox = s.inbox := by simp [State.construct]
@[simp] theorem State.construct_txAnswers : (s.construct bs).txAnswers = s.txAnswers := by simp [State.construct]
@[simp] theorem State.construct_ovfAnswers : (s.construct bs).ovfAnswers = s.ovfAnswers := by simp [State.construct]
@[simp] theorem State.construct_draws : (s.construct bs).draws = s.draws := by simp [State.construct]
@[simp] theorem State.construct_epoch : (s.construct bs).epoch = s.epoch := by simp [State.construct]
@[simp] theorem State.construct_txLog : (s.construct bs).txLog = s.txLog := by simp [State.construct]
@[simp] theorem State.construct_responses : (s.construct bs).responses = s.responses := by simp [State.construct]

end

end Sys2Proof.Machine
end

