-- ==== Sys2Proof/Laws/Memory.lean ====
section
/-! SUPPORT. The laws of the buffers: read after write, the canonical form, and the bytes and big-endian
fields of `PB` and `PSB` after each named operation (20_memory.md R60 to R66). -/

namespace Sys2Proof.Machine

/-! ### Memory -/

theorem Memory.get?_set (m : Memory) (a k : Nat) (b : Byte) :
    (Memory.set m a b).get? k = if k = a then some b else Memory.get? m k := by
  induction m with
  | nil => simp only [Memory.set, Memory.get?, eq_comm]
  | cons c m ih =>
    obtain ⟨j, v⟩ := c
    simp only [Memory.set]
    by_cases h1 : a < j
    · rw [if_pos h1]; simp only [Memory.get?, @eq_comm _ a k]
    · rw [if_neg h1]
      by_cases h2 : a = j
      · subst h2; rw [if_pos rfl]; simp only [Memory.get?, @eq_comm _ a k]
        by_cases h3 : k = a
        · simp [h3]
        · simp [h3]
      · rw [if_neg h2]; simp only [Memory.get?, ih]
        by_cases h3 : j = k
        · subst h3; rw [if_pos rfl, if_neg (Ne.symm h2), if_pos rfl]
        · rw [if_neg h3, if_neg h3]

theorem Memory.get?_setMany (bs : List Byte) (m : Memory) (a k : Nat) :
    (Memory.setMany m a bs).get? k
      = if a ≤ k ∧ k < a + bs.length then bs[k - a]? else Memory.get? m k := by
  induction bs generalizing m a with
  | nil => simp [Memory.setMany]
  | cons b bs ih =>
    simp only [Memory.setMany, ih, Memory.get?_set, List.length_cons]
    by_cases h : k = a
    · subst h; simp
    · by_cases h2 : a ≤ k
      · obtain ⟨d, rfl⟩ : ∃ d, k = a + 1 + d := ⟨k - (a + 1), by omega⟩
        have e : a + 1 + d - a = d + 1 := by omega
        have e2 : a + 1 + d - (a + 1) = d := by omega
        simp only [e, e2, List.getElem?_cons_succ, if_neg h]
        congr 1
        simp; omega
      · rw [if_neg (by omega), if_neg h, if_neg (by omega)]

theorem Memory.keys_set (m : Memory) (a : Nat) (b : Byte) (c : Host.Cell) (h : c ∈ Memory.set m a b) :
    c.1 = a ∨ c ∈ m := by
  induction m with
  | nil => simp [Memory.set] at h; simp [h]
  | cons d m ih =>
    simp only [Memory.set] at h
    split at h
    · simp only [List.mem_cons] at h ⊢; rcases h with h | h <;> simp_all
    · split at h
      · simp only [List.mem_cons] at h ⊢; rcases h with h | h <;> simp_all
      · simp only [List.mem_cons] at h ⊢
        rcases h with h | h
        · simp [h]
        · rcases ih h with h | h <;> simp [h]

theorem Memory.wf_iff (m : Memory) : Memory.wf m = true ↔ m.Pairwise (fun x y => x.1 < y.1) := by
  simp [Memory.wf]

theorem Memory.within_iff (cap : Nat) (m : Memory) : Memory.within cap m = true ↔ ∀ c ∈ m, c.1 < cap := by
  simp [Memory.within]

/-- A write of one byte keeps the canonical form. -/
theorem Memory.wf_set (m : Memory) (a : Nat) (b : Byte) (h : Memory.wf m = true) :
    Memory.wf (Memory.set m a b) = true := by
  rw [Memory.wf_iff] at h ⊢
  induction m with
  | nil => simp [Memory.set]
  | cons d m ih =>
    obtain ⟨hd, hm⟩ := List.pairwise_cons.1 h
    simp only [Memory.set]
    split
    · refine List.pairwise_cons.2 ⟨?_, h⟩
      intro c hc
      rcases List.mem_cons.1 hc with rfl | hc
      · assumption
      · have := hd c hc; simp only; omega
    · split
      · subst_vars; exact List.pairwise_cons.2 ⟨hd, hm⟩
      · refine List.pairwise_cons.2 ⟨?_, ih hm⟩
        intro c hc
        rcases Memory.keys_set m a b c hc with h1 | h1
        · simp only; omega
        · exact hd c h1

theorem Memory.wf_setMany (bs : List Byte) (m : Memory) (a : Nat) (h : Memory.wf m = true) :
    Memory.wf (Memory.setMany m a bs) = true := by
  induction bs generalizing m a with
  | nil => exact h
  | cons b bs ih => exact ih _ _ (Memory.wf_set m a b h)

theorem Memory.within_set (cap : Nat) (m : Memory) (a : Nat) (b : Byte) (h : Memory.within cap m = true)
    (ha : a < cap) : Memory.within cap (Memory.set m a b) = true := by
  rw [Memory.within_iff] at h ⊢
  intro c hc
  rcases Memory.keys_set m a b c hc with h1 | h1
  · omega
  · exact h c h1

theorem Memory.within_setMany (cap : Nat) (bs : List Byte) (m : Memory) (a : Nat)
    (h : Memory.within cap m = true) (ha : a + bs.length ≤ cap) :
    Memory.within cap (Memory.setMany m a bs) = true := by
  induction bs generalizing m a with
  | nil => exact h
  | cons b bs ih =>
    simp only [List.length_cons] at ha
    exact ih _ _ (Memory.within_set cap m a b h (by omega)) (by omega)

/-! ### Byte order -/

@[simp] theorem beBytes_length (n v : Nat) : (beBytes n v).length = n := by
  induction n with
  | zero => rfl
  | succ n ih => simp [beBytes, ih]

theorem beBytes_getElem? (n v i : Nat) (h : i < n) :
    (beBytes n v)[i]? = some (BitVec.ofNat 8 (v / 256 ^ (n - 1 - i))) := by
  induction n generalizing i with
  | zero => omega
  | succ n ih =>
    cases i with
    | zero => simp [beBytes]
    | succ i =>
      rw [beBytes, List.getElem?_cons_succ, ih i (by omega)]
      congr 4; omega

theorem beNat_foldl (bs : List Byte) (x : Nat) :
    bs.foldl (fun n b => n * 256 + b.toNat) x = x * 256 ^ bs.length + beNat bs := by
  unfold beNat
  induction bs generalizing x with
  | nil => simp
  | cons b bs ih =>
    simp only [List.foldl_cons, List.length_cons]
    rw [ih, ih (0 * 256 + b.toNat)]
    ring

theorem beNat_cons (b : Byte) (bs : List Byte) : beNat (b :: bs) = b.toNat * 256 ^ bs.length + beNat bs := by
  have := beNat_foldl bs b.toNat
  simp only [beNat, List.foldl_cons, Nat.zero_mul, Nat.zero_add] at this ⊢
  exact this

@[simp] theorem beNat_nil : beNat [] = 0 := by rfl

theorem beNat_append (bs cs : List Byte) : beNat (bs ++ cs) = beNat bs * 256 ^ cs.length + beNat cs := by
  conv_lhs => unfold beNat
  rw [List.foldl_append, beNat_foldl]
  rfl

theorem beNat_lt (bs : List Byte) : beNat bs < 256 ^ bs.length := by
  induction bs with
  | nil => simp
  | cons b bs ih =>
    rw [beNat_cons, List.length_cons, Nat.pow_succ]
    have := b.isLt
    have h2 : b.toNat * 256 ^ bs.length + 256 ^ bs.length ≤ 256 ^ bs.length * 256 := by
      have : (b.toNat + 1) * 256 ^ bs.length ≤ 256 * 256 ^ bs.length :=
        Nat.mul_le_mul_right _ (by omega)
      nlinarith
    omega

/-- Reading back what was laid out gives the low `8n` bits. -/
theorem beNat_beBytes (n v : Nat) : beNat (beBytes n v) = v % 256 ^ n := by
  induction n with
  | zero => simp [beBytes, Nat.mod_one]
  | succ n ih =>
    rw [beBytes, beNat_cons, ih, beBytes_length, BitVec.toNat_ofNat, Nat.pow_succ 256 n, Nat.mod_mul]
    rw [show (2 : Nat) ^ 8 = 256 by norm_num]; ring

/-! ### Bytes of the buffers after each operation -/

section

variable (s : State) (k : Nat)

theorem State.pbAt_pbStore (a : Nat) (bs : List Byte) :
    (s.pbStore a bs).pbAt k = if a ≤ k ∧ k < a + bs.length then bs.getD (k - a) 0 else s.pbAt k := by
  unfold State.pbAt
  rw [State.pbStore_pb, State.pbStore_epoch, Memory.get?_setMany]
  split
  · next h => rw [List.getD_eq_getElem?_getD, List.getElem?_eq_getElem (by omega)]; rfl
  · rfl

theorem State.psbAt_psbStore (a : Nat) (bs : List Byte) :
    (s.psbStore a bs).psbAt k = if a ≤ k ∧ k < a + bs.length then bs.getD (k - a) 0 else s.psbAt k := by
  unfold State.psbAt
  rw [State.psbStore_psb, State.psbStore_epoch, Memory.get?_setMany]
  split
  · next h => rw [List.getD_eq_getElem?_getD, List.getElem?_eq_getElem (by omega)]; rfl
  · rfl

/-- Every byte after `MemWrite(a, n, v)` (R64). -/
theorem State.pbAt_memWrite (a n v : Nat) :
    (s.memWrite a n v).pbAt k
      = if a ≤ k ∧ k < a + n then BitVec.ofNat 8 (v / 256 ^ (n - 1 - (k - a))) else s.pbAt k := by
  rw [State.memWrite, State.pbAt_pbStore, beBytes_length]
  split
  · next h => rw [List.getD_eq_getElem?_getD, beBytes_getElem? _ _ _ (by omega)]; rfl
  · rfl

theorem State.pbAt_memWrite_of_lt (a n v : Nat) (h : k < a) : (s.memWrite a n v).pbAt k = s.pbAt k := by
  rw [State.pbAt_memWrite, if_neg (by omega)]

theorem State.pbAt_memWrite_of_ge (a n v : Nat) (h : a + n ≤ k) : (s.memWrite a n v).pbAt k = s.pbAt k := by
  rw [State.pbAt_memWrite, if_neg (by omega)]

@[simp] theorem State.psbAt_pbStore (a : Nat) (bs : List Byte) : (s.pbStore a bs).psbAt k = s.psbAt k := by rfl
@[simp] theorem State.pbAt_psbStore (a : Nat) (bs : List Byte) : (s.psbStore a bs).pbAt k = s.pbAt k := by rfl
@[simp] theorem State.psbAt_memWrite (a n v : Nat) : (s.memWrite a n v).psbAt k = s.psbAt k := by rfl
@[simp] theorem State.pbAt_raise (f : CmdFault) : (s.raise f).pbAt k = s.pbAt k := by rfl
@[simp] theorem State.psbAt_raise (f : CmdFault) : (s.raise f).psbAt k = s.psbAt k := by rfl
@[simp] theorem State.pbAt_complete : (s.complete).pbAt k = s.pbAt k := by rfl
@[simp] theorem State.psbAt_complete : (s.complete).psbAt k = s.psbAt k := by rfl
@[simp] theorem State.pbAt_withResult (v : Nat) : (s.withResult v).pbAt k = s.pbAt k := by rfl
@[simp] theorem State.psbAt_withResult (v : Nat) : (s.withResult v).psbAt k = s.psbAt k := by rfl
@[simp] theorem State.pbAt_withMatch (p : Bool) : (s.withMatch p).pbAt k = s.pbAt k := by rfl
@[simp] theorem State.psbAt_withMatch (p : Bool) : (s.withMatch p).psbAt k = s.psbAt k := by rfl
@[simp] theorem State.pbAt_transmit (n : Nat) : (s.transmit n).pbAt k = s.pbAt k := by rfl
@[simp] theorem State.psbAt_transmit (n : Nat) : (s.transmit n).psbAt k = s.psbAt k := by rfl
@[simp] theorem State.pbAt_pollOverflow : (s.pollOverflow).pbAt k = s.pbAt k := by rfl
@[simp] theorem State.psbAt_pollOverflow : (s.pollOverflow).psbAt k = s.psbAt k := by rfl
@[simp] theorem State.pbAt_respond : (s.respond).pbAt k = s.pbAt k := by rfl
@[simp] theorem State.psbAt_respond : (s.respond).psbAt k = s.psbAt k := by rfl
@[simp] theorem State.pbAt_loadContext : (s.loadContext).pbAt k = s.pbAt k := by rfl
@[simp] theorem State.psbAt_loadContext : (s.loadContext).psbAt k = s.psbAt k := by rfl

end

/-! ### Fields of `PB` -/

section

variable (s t : State) (a n : Nat)

@[simp] theorem State.pbBytes_length : (s.pbBytes a n).length = n := by simp [State.pbBytes]

@[simp] theorem State.psbBytes_length : (s.psbBytes a n).length = n := by simp [State.psbBytes]

theorem State.pbBytes_congr (h : ∀ k, a ≤ k → k < a + n → t.pbAt k = s.pbAt k) :
    t.pbBytes a n = s.pbBytes a n := by
  simp only [State.pbBytes, List.map_inj_left, List.mem_range]
  intro i hi; exact h _ (by omega) (by omega)

theorem State.psbBytes_congr (h : ∀ k, a ≤ k → k < a + n → t.psbAt k = s.psbAt k) :
    t.psbBytes a n = s.psbBytes a n := by
  simp only [State.psbBytes, List.map_inj_left, List.mem_range]
  intro i hi; exact h _ (by omega) (by omega)

/-- A field depends on its own bytes only (R63). -/
theorem State.memRead_congr (h : ∀ k, a ≤ k → k < a + n → t.pbAt k = s.pbAt k) :
    t.memRead a n = s.memRead a n := by
  rw [State.memRead, State.memRead, State.pbBytes_congr s t a n h]

theorem State.memRead_lt : s.memRead a n < 256 ^ n := by
  have := beNat_lt (s.pbBytes a n)
  rwa [State.pbBytes_length] at this

theorem State.memRead_one : s.memRead a 1 = (s.pbAt a).toNat := by
  simp [State.memRead, State.pbBytes, List.range_succ, beNat]

theorem State.memRead_two : s.memRead a 2 = (s.pbAt a).toNat * 256 + (s.pbAt (a + 1)).toNat := by
  simp [State.memRead, State.pbBytes, List.range_succ, beNat]

theorem State.memRead_four :
    s.memRead a 4 = (s.pbAt a).toNat * 16777216 + (s.pbAt (a + 1)).toNat * 65536
      + (s.pbAt (a + 2)).toNat * 256 + (s.pbAt (a + 3)).toNat := by
  simp [State.memRead, State.pbBytes, List.range_succ, beNat]; ring

theorem State.memRead_six :
    s.memRead a 6 = (s.pbAt a).toNat * 1099511627776 + (s.pbAt (a + 1)).toNat * 4294967296
      + (s.pbAt (a + 2)).toNat * 16777216 + (s.pbAt (a + 3)).toNat * 65536
      + (s.pbAt (a + 4)).toNat * 256 + (s.pbAt (a + 5)).toNat := by
  simp [State.memRead, State.pbBytes, List.range_succ, beNat]; ring

theorem State.pbBytes_pbStore_same (bs : List Byte) (h : bs.length = n) :
    (s.pbStore a bs).pbBytes a n = bs := by
  apply List.ext_getElem?
  intro i
  by_cases hi : i < n
  · rw [State.pbBytes, List.getElem?_map, List.getElem?_range hi, Option.map_some, State.pbAt_pbStore,
      if_pos (by omega), List.getD_eq_getElem?_getD, Nat.add_sub_cancel_left,
      List.getElem?_eq_getElem (by omega)]
    rfl
  · rw [List.getElem?_eq_none (by simp; omega), List.getElem?_eq_none (by omega)]

theorem State.psbBytes_psbStore_same (bs : List Byte) (h : bs.length = n) :
    (s.psbStore a bs).psbBytes a n = bs := by
  apply List.ext_getElem?
  intro i
  by_cases hi : i < n
  · rw [State.psbBytes, List.getElem?_map, List.getElem?_range hi, Option.map_some, State.psbAt_psbStore,
      if_pos (by omega), List.getD_eq_getElem?_getD, Nat.add_sub_cancel_left,
      List.getElem?_eq_getElem (by omega)]
    rfl
  · rw [List.getElem?_eq_none (by simp; omega), List.getElem?_eq_none (by omega)]

/-- Read after write (R63, R64). -/
theorem State.memRead_memWrite_same (v : Nat) : (s.memWrite a n v).memRead a n = v % 256 ^ n := by
  rw [State.memRead, State.memWrite, State.pbBytes_pbStore_same _ _ _ _ (beBytes_length n v), beNat_beBytes]

/-- A write leaves every field it does not touch (R64). -/
theorem State.memRead_memWrite_of_disjoint (b m v : Nat) (h : a + n ≤ b ∨ b + m ≤ a) :
    (s.memWrite b m v).memRead a n = s.memRead a n := by
  apply State.memRead_congr
  intro k h1 h2
  rw [State.pbAt_memWrite, if_neg (by omega)]

end

/-! ### Sequences of writes -/

@[simp] theorem State.memWrites_nil (s : State) : s.memWrites [] = s := by rfl

@[simp] theorem State.memWrites_cons (s : State) (w : Nat × Nat × Nat) (ws : List (Nat × Nat × Nat)) :
    s.memWrites (w :: ws) = (s.memWrite w.1 w.2.1 w.2.2).memWrites ws := by rfl

theorem State.memWrites_append (s : State) (ws vs : List (Nat × Nat × Nat)) :
    s.memWrites (ws ++ vs) = (s.memWrites ws).memWrites vs := by
  simp [State.memWrites]

/-- What any sequence of writes changes: `PB`, and nothing else. -/
theorem State.memWrites_eq (s : State) (ws : List (Nat × Nat × Nat)) :
    s.memWrites ws = { s with pb := (s.memWrites ws).pb } := by
  induction ws generalizing s with
  | nil => rfl
  | cons w ws ih => rw [State.memWrites_cons, ih]; rfl

/-- A byte that no write of a sequence covers. -/
theorem State.pbAt_memWrites_of_outside (s : State) (ws : List (Nat × Nat × Nat)) (k : Nat)
    (h : ∀ w ∈ ws, k < w.1 ∨ w.1 + w.2.1 ≤ k) : (s.memWrites ws).pbAt k = s.pbAt k := by
  induction ws generalizing s with
  | nil => rfl
  | cons w ws ih =>
    rw [State.memWrites_cons, ih _ (fun v hv => h v (by simp [hv])), State.pbAt_memWrite,
      if_neg (by have := h w (by simp); omega)]

/-! ### Registers after each operation -/

section

variable (s : State) (r : Reg)

@[simp] theorem State.readReg_pbStore (a : Nat) (bs : List Byte) : (s.pbStore a bs).readReg r = s.readReg r := by
  cases r <;> rfl

@[simp] theorem State.readReg_psbStore (a : Nat) (bs : List Byte) : (s.psbStore a bs).readReg r = s.readReg r := by
  cases r <;> rfl

@[simp] theorem State.readReg_memWrite (a n v : Nat) : (s.memWrite a n v).readReg r = s.readReg r := by
  cases r <;> rfl

@[simp] theorem State.readReg_respond : s.respond.readReg r = s.readReg r := by
  cases r <;> rfl

theorem State.readReg_complete (h : r ≠ .err) : s.complete.readReg r = s.readReg r := by
  cases r <;> first | rfl | exact absurd rfl h

theorem State.readReg_withResult (v : Nat) (h : r ≠ .result) : (s.withResult v).readReg r = s.readReg r := by
  cases r <;> first | rfl | exact absurd rfl h

theorem State.readReg_withMatch (p : Bool) (h : r ≠ .flags) : (s.withMatch p).readReg r = s.readReg r := by
  cases r <;> first | rfl | exact absurd rfl h

theorem State.readReg_raise (f : CmdFault) (h : r ≠ .flags) (h2 : r ≠ .err) :
    (s.raise f).readReg r = s.readReg r := by
  cases r <;> first | rfl | exact absurd rfl h | exact absurd rfl h2

theorem State.readReg_transmit (n : Nat) (h : r ≠ .flags) (h2 : r ≠ .err) :
    (s.transmit n).readReg r = s.readReg r := by
  cases r <;> first | rfl | exact absurd rfl h | exact absurd rfl h2

end

end Sys2Proof.Machine
end

