-- ==== Sys2Proof/Laws/Checksum.lean ====
section
/-! SUPPORT. The laws of `Acc`, `Fold` and `Inject*` (40_checksum.md R130, R131, R134): the sum as exact
arithmetic, the fold as a remainder modulo 0xFFFF, and what writing a fold back does to the sum. -/

namespace Sys2Proof.Machine

/-! ### The exact sum of a region -/

theorem wordOf_le (hi lo : Byte) : wordOf hi lo ≤ 65535 := by
  have := hi.isLt; have := lo.isLt; unfold wordOf; omega

@[simp] theorem exactWordSum_zero (rd : Nat → Byte) (a : Nat) : exactWordSum rd a 0 = 0 := by
  simp [exactWordSum]

theorem exactWordSum_one (rd : Nat → Byte) (a : Nat) : exactWordSum rd a 1 = (rd a).toNat * 256 := by
  simp [exactWordSum]

/-- The first word and the rest. -/
theorem exactWordSum_step (rd : Nat → Byte) (a n : Nat) :
    exactWordSum rd a (n + 2) = wordOf (rd a) (rd (a + 1)) + exactWordSum rd (a + 2) n := by
  have e : (List.range (n / 2)).map ((fun k => (rd (a + 2 * k)).toNat * 256 + (rd (a + 2 * k + 1)).toNat) ∘ Nat.succ)
      = (List.range (n / 2)).map (fun k => (rd (a + 2 + 2 * k)).toNat * 256 + (rd (a + 2 + 2 * k + 1)).toNat) :=
    List.map_congr_left fun k _ => by
      simp only [Function.comp, Nat.succ_eq_add_one, show a + 2 * (k + 1) = a + 2 + 2 * k by ring]
  unfold exactWordSum wordOf
  rw [show (n + 2) / 2 = n / 2 + 1 by omega, show (n + 2) % 2 = n % 2 by omega,
    show a + (n + 2) - 1 = a + 2 + n - 1 by omega, List.range_succ_eq_map, List.map_cons, List.sum_cons,
    List.map_map, e, Nat.mul_zero, Nat.add_zero, Nat.add_assoc]

/-- A region is the sum of its parts, where the first part has an even length. -/
theorem exactWordSum_add (rd : Nat → Byte) (k : Nat) : ∀ a n,
    exactWordSum rd a (2 * k + n) = exactWordSum rd a (2 * k) + exactWordSum rd (a + 2 * k) n := by
  induction k with
  | zero => intro a n; simp
  | succ k ih =>
    intro a n
    rw [show 2 * (k + 1) + n = 2 * k + n + 2 by ring, show 2 * (k + 1) = 2 * k + 2 by ring,
      exactWordSum_step, exactWordSum_step, ih, show a + (2 * k + 2) = a + 2 + 2 * k by ring]
    omega

/-- The sum depends on the bytes of the region only. -/
theorem exactWordSum_congr (rd rd' : Nat → Byte) (a n : Nat)
    (h : ∀ k, a ≤ k → k < a + n → rd' k = rd k) : exactWordSum rd' a n = exactWordSum rd a n := by
  have e : (List.range (n / 2)).map (fun k => (rd' (a + 2 * k)).toNat * 256 + (rd' (a + 2 * k + 1)).toNat)
      = (List.range (n / 2)).map (fun k => (rd (a + 2 * k)).toNat * 256 + (rd (a + 2 * k + 1)).toNat) :=
    List.map_congr_left fun k hk => by
      rw [List.mem_range] at hk
      rw [h _ (by omega) (by omega), h _ (by omega) (by omega)]
  unfold exactWordSum
  rw [e]
  by_cases h1 : n % 2 = 1
  · rw [if_pos h1, if_pos h1, h _ (by omega) (by omega)]
  · rw [if_neg h1, if_neg h1]

/-- Changing one word at an even distance changes the sum by the difference of the words. -/
theorem exactWordSum_update (rd rd' : Nat → Byte) (a n f : Nat) (ha : a ≤ f) (he : (f - a) % 2 = 0)
    (hf : f + 2 ≤ a + n) (h : ∀ k, a ≤ k → k < a + n → k ≠ f → k ≠ f + 1 → rd' k = rd k) :
    exactWordSum rd' a n + wordOf (rd f) (rd (f + 1)) = exactWordSum rd a n + wordOf (rd' f) (rd' (f + 1)) := by
  obtain ⟨j, hj⟩ : ∃ j, f = a + 2 * j := ⟨(f - a) / 2, by omega⟩
  obtain ⟨m, hm⟩ : ∃ m, n = 2 * j + (m + 2) := ⟨n - 2 * j - 2, by omega⟩
  subst hj hm
  rw [exactWordSum_add, exactWordSum_add, exactWordSum_step, exactWordSum_step,
    exactWordSum_congr rd rd' a (2 * j) (fun k h1 h2 => h k h1 (by omega) (by omega) (by omega)),
    exactWordSum_congr rd rd' (a + 2 * j + 2) m (fun k h1 h2 => h k (by omega) (by omega) (by omega) (by omega))]
  omega

theorem exactWordSum_le (rd : Nat → Byte) : ∀ n a, exactWordSum rd a n ≤ 65535 * ((n + 1) / 2)
  | 0, a => by simp
  | 1, a => by rw [exactWordSum_one]; have := (rd a).isLt; omega
  | n + 2, a => by
    rw [exactWordSum_step]
    have := exactWordSum_le rd n (a + 2)
    have := wordOf_le (rd a) (rd (a + 1))
    omega

/-! ### `Acc` -/

theorem accWords_add (rd : Nat → Byte) (k : Nat) : ∀ a x,
    accWords rd a k x = x + BitVec.ofNat 32 (exactWordSum rd a (2 * k)) := by
  induction k with
  | zero => intro a x; simp [accWords]
  | succ k ih =>
    intro a x
    rw [accWords, ih, show 2 * (k + 1) = 2 * k + 2 by ring, exactWordSum_step, BitVec.ofNat_add, BitVec.add_assoc]

/-- `Acc` adds the exact word sum, modulo 2^32 (R130). -/
theorem acc_eq (rd : Nat → Byte) (a n : Nat) (x : BitVec 32) :
    acc rd a n x = x + BitVec.ofNat 32 (exactWordSum rd a n) := by
  unfold acc
  rw [accWords_add]
  split
  · next h =>
    obtain ⟨k, rfl⟩ : ∃ k, n = 2 * k + 1 := ⟨n / 2, by omega⟩
    rw [show (2 * k + 1) / 2 = k by omega, exactWordSum_add, exactWordSum_one, BitVec.ofNat_add,
      BitVec.add_assoc, show a + (2 * k + 1) - 1 = a + 2 * k by omega]
    simp [wordOf]
  · next h =>
    rw [show 2 * (n / 2) = n by omega]

theorem State.acc_eq (s : State) (a n : Nat) (x : BitVec 32) :
    s.acc a n x = x + BitVec.ofNat 32 (exactWordSum s.pbAt a n) := Machine.acc_eq _ _ _ _

theorem State.acc_toNat (s : State) (a n : Nat) (x : BitVec 32) :
    (s.acc a n x).toNat = (x.toNat + exactWordSum s.pbAt a n) % 2 ^ 32 := by
  rw [State.acc_eq, BitVec.toNat_add, BitVec.toNat_ofNat, Nat.add_mod_mod]

theorem State.acc_congr (s t : State) (a n : Nat) (x : BitVec 32)
    (h : ∀ k, a ≤ k → k < a + n → t.pbAt k = s.pbAt k) : t.acc a n x = s.acc a n x := by
  rw [State.acc_eq, State.acc_eq, exactWordSum_congr s.pbAt t.pbAt a n h]

/-- The header sum as an integer: it cannot wrap. -/
theorem State.ipSum_toNat (s : State) : s.ipSum.toNat = exactWordSum s.pbAt 14 s.ihl := by
  have h := exactWordSum_le s.pbAt s.ihl 14
  have h2 : s.ihl ≤ 60 := by unfold State.ihl; omega
  rw [State.ipSum, State.acc_toNat]
  simp only [BitVec.ofNat_eq_ofNat, BitVec.toNat_ofNat]
  omega

theorem State.pseudoSum_toNat (s : State) (proto : Nat) (hp : proto < 65536) (hl : s.l4Len < 65536) :
    (s.pseudoSum proto).toNat = exactWordSum s.pbAt 26 8 + proto + s.l4Len := by
  have h := exactWordSum_le s.pbAt 8 26
  rw [State.pseudoSum, BitVec.toNat_add, BitVec.toNat_add, State.acc_toNat]
  simp only [BitVec.ofNat_eq_ofNat, BitVec.toNat_ofNat]
  omega

/-- The layer-4 sum as an integer: inside the buffer it cannot wrap. -/
theorem State.l4Sum_toNat (s : State) (proto : Nat) (hp : proto < 65536) (hl : s.l4Len < 65536) :
    (s.l4Sum proto).toNat
      = exactWordSum s.pbAt 26 8 + proto + s.l4Len + exactWordSum s.pbAt s.l4Base s.l4Len := by
  have h := exactWordSum_le s.pbAt 8 26
  have h2 := exactWordSum_le s.pbAt s.l4Len s.l4Base
  rw [State.l4Sum, State.acc_toNat, State.pseudoSum_toNat s proto hp hl]
  omega

/-! ### `Fold` -/

/-- The one's complement of the remainder, where the remainder of a positive number runs from 1 to 0xFFFF
(R131). -/
theorem fold_toNat (x : BitVec 32) :
    (fold x).toNat = if x.toNat = 0 then 65535 else 65534 - (x.toNat - 1) % 65535 := by
  have hx := x.isLt
  have key : (foldLoop 2 x).toNat = if x.toNat = 0 then 0 else (x.toNat - 1) % 65535 + 1 := by
    have e : (foldRound x).toNat = x.toNat % 65536 + x.toNat / 65536 := by
      rw [foldRound, BitVec.toNat_ofNat]; omega
    have e2 : (foldRound (foldRound x)).toNat
        = (foldRound x).toNat % 65536 + (foldRound x).toNat / 65536 := by
      rw [foldRound, BitVec.toNat_ofNat]; omega
    simp only [foldLoop]
    by_cases h1 : x.toNat / 65536 = 0
    · rw [if_pos h1]; split <;> omega
    · rw [if_neg h1]
      by_cases h2 : (foldRound x).toNat / 65536 = 0
      · rw [if_pos h2]; split <;> omega
      · rw [if_neg h2]; split <;> omega
  unfold fold
  rw [BitVec.toNat_not, BitVec.toNat_ofNat, key]
  split <;> omega

/-- When a sum folds to zero (R131, 41_classifier.md R151). -/
theorem fold_eq_zero (x : BitVec 32) : fold x = 0 ↔ 0 < x.toNat ∧ x.toNat % 65535 = 0 := by
  rw [← BitVec.toNat_inj, fold_toNat]
  simp only [BitVec.ofNat_eq_ofNat, BitVec.toNat_ofNat]
  have hx := x.isLt
  split <;> omega

/-- A sum and its own fold together fold to zero, as long as they do not wrap. -/
theorem fold_add_fold (x y : BitVec 32) (h : y.toNat = x.toNat + (fold x).toNat) : fold y = 0 := by
  rw [fold_eq_zero, h, fold_toNat]
  split <;> omega

/-! ### `Inject*` -/

theorem State.inject_def (s : State) (f : Nat) (sumOf : State → BitVec 32) :
    s.inject f sumOf
      = (s.memWrite f 2 0).memWrite f 2 (fold (sumOf (s.memWrite f 2 0))).toNat := rfl

/-- The bytes after `Inject*`: the checksum's two, and every other as before (R134). -/
theorem State.pbAt_inject (s : State) (f k : Nat) (sumOf : State → BitVec 32) :
    (s.inject f sumOf).pbAt k
      = if k = f then BitVec.ofNat 8 ((s.checksumFor f sumOf).toNat / 256)
        else if k = f + 1 then BitVec.ofNat 8 (s.checksumFor f sumOf).toNat
        else s.pbAt k := by
  rw [State.inject, State.pbAt_memWrite]
  by_cases h1 : k = f
  · subst h1; simp
  · by_cases h2 : k = f + 1
    · subst h2; simp
    · rw [if_neg (by omega), if_neg h1, if_neg h2, State.pbAt_memWrite, if_neg (by omega)]

theorem State.pbAt_inject_of_ne (s : State) (f k : Nat) (sumOf : State → BitVec 32) (h : k < f ∨ f + 2 ≤ k) :
    (s.inject f sumOf).pbAt k = s.pbAt k := by
  rw [State.pbAt_inject, if_neg (by omega), if_neg (by omega)]

/-- The field after `Inject*` (R134). -/
theorem State.memRead_inject (s : State) (f : Nat) (sumOf : State → BitVec 32) :
    (s.inject f sumOf).memRead f 2 = (s.checksumFor f sumOf).toNat := by
  rw [State.inject, State.memRead_memWrite_same]
  have := (s.checksumFor f sumOf).isLt
  omega

/-- Everything but `PB` is as before. -/
theorem State.inject_eq (s : State) (f : Nat) (sumOf : State → BitVec 32) :
    s.inject f sumOf = { s with pb := (s.inject f sumOf).pb } := rfl

/-- The region sum after `Inject*`: the sum with the field zeroed, and the field. -/
theorem State.exactWordSum_inject (s : State) (a n f : Nat) (sumOf : State → BitVec 32) (ha : a ≤ f)
    (he : (f - a) % 2 = 0) (hf : f + 2 ≤ a + n) :
    exactWordSum (s.inject f sumOf).pbAt a n
      = exactWordSum (s.memWrite f 2 0).pbAt a n + (s.checksumFor f sumOf).toNat := by
  have h := exactWordSum_update (s.memWrite f 2 0).pbAt (s.inject f sumOf).pbAt a n f ha he hf
    (fun k _ _ h1 h2 => by
      rw [State.pbAt_inject, if_neg h1, if_neg h2, State.pbAt_memWrite, if_neg (by omega)])
  have hz : wordOf ((s.memWrite f 2 0).pbAt f) ((s.memWrite f 2 0).pbAt (f + 1)) = 0 := by
    rw [State.pbAt_memWrite, if_pos (by omega), State.pbAt_memWrite, if_pos (by omega)]
    simp [wordOf]
  have hc : wordOf ((s.inject f sumOf).pbAt f) ((s.inject f sumOf).pbAt (f + 1))
      = (s.checksumFor f sumOf).toNat := by
    rw [State.pbAt_inject, if_pos rfl, State.pbAt_inject, if_neg (by omega), if_pos rfl]
    have := (s.checksumFor f sumOf).isLt
    simp only [wordOf, BitVec.toNat_ofNat]
    omega
  omega

end Sys2Proof.Machine
end

