-- ==== Sys2Proof/Laws/Encoding.lean ====
section
/-! SUPPORT. The laws of operands and formats (30_encoding.md R102 to R104): where an operand stands in a
command, what a length field says, and the bound that encoding respects. -/

namespace Sys2Proof

open Sys2Proof.Machine

/-- The bytes of an operand stand behind what comes before it (R103). -/
theorem operand_at (pre mid suf : List Byte) (i n : Nat) (hi : pre.length = i) (hn : mid.length = n) :
    operand (pre ++ mid ++ suf) i n = beNat mid := by
  subst hi hn
  rw [operand, List.append_assoc, List.drop_left, List.take_left]

theorem operand_cons (b : Byte) (bs : List Byte) (i n : Nat) : operand (b :: bs) (i + 1) n = operand bs i n := rfl

/-- A 16-bit number laid out as an operand reads back (R60, R103). -/
theorem beNat_beBytes_of_lt (n v : Nat) (h : v < 256 ^ n) : beNat (beBytes n v) = v := by
  rw [beNat_beBytes, Nat.mod_eq_of_lt h]

theorem lengthPrefixed_length (data : List Byte) : (lengthPrefixed data).length = 2 + data.length := by
  simp [lengthPrefixed]

/-- The length field of a byte string that has an encoding (R102). -/
theorem operand_lengthPrefixed (op : Byte) (data suf : List Byte) (h : data.length < 65536) :
    operand (op :: (lengthPrefixed data ++ suf)) 1 2 = data.length := by
  have e : op :: (lengthPrefixed data ++ suf) = [op] ++ beBytes 2 data.length ++ (data ++ suf) := by
    simp [lengthPrefixed]
  rw [e, operand_at [op] (beBytes 2 data.length) (data ++ suf) 1 2 rfl (beBytes_length _ _),
    beNat_beBytes_of_lt _ _ h]

theorem fitsLength_iff (data : List Byte) : fitsLength data = true ↔ data.length < 65536 := by
  simp [fitsLength]

end Sys2Proof
end

