-- ==== Sys2Proof/Laws/Ops.lean ====
section
/-! SUPPORT. One law for each shared operation: everything it can do, in the terms of Safety.lean. A proof
about a command cites these and unfolds no operation. -/

namespace Sys2Proof.Machine

/-! ### Kept -/

theorem PortsKept.refl (s : State) : PortsKept s s := ⟨rfl, rfl, rfl, rfl, rfl, rfl, rfl, rfl⟩

/-- Taking a fault is precise (60_exceptions.md R283). -/
theorem State.raise_faulted (s : State) (f : CmdFault) : Faulted f s (s.raise f) where
  err := rfl
  flags := rfl
  rest :=
    { regs := fun r h => State.readReg_raise s r f (fun e => h (by simp [e])) (fun e => h (by simp [e]))
      pb := fun _ => rfl
      psb := fun _ => rfl
      ports := ⟨rfl, rfl, rfl, rfl, rfl, rfl, rfl, rfl⟩ }

/-- The common completion touches `ERR` only (R284). -/
theorem State.complete_only (s : State) : OnlyRegs [.err] s s.complete where
  regs := fun r h => State.readReg_complete s r (fun e => h (by simp [e]))
  pb := fun _ => rfl
  psb := fun _ => rfl
  ports := ⟨rfl, rfl, rfl, rfl, rfl, rfl, rfl, rfl⟩

/-- A command that hands back a value in `RESULT`. -/
theorem State.withResult_only (s : State) (v : Nat) : OnlyRegs [.result, .err] s (s.withResult v).complete where
  regs := fun r h => by
    rw [State.readReg_complete _ _ (fun e => h (by simp [e])),
      State.readReg_withResult _ _ _ (fun e => h (by simp [e]))]
  pb := fun _ => rfl
  psb := fun _ => rfl
  ports := ⟨rfl, rfl, rfl, rfl, rfl, rfl, rfl, rfl⟩

/-- A command that answers in `MATCH`. -/
theorem State.withMatch_only (s : State) (p : Bool) : OnlyRegs [.flags, .err] s (s.withMatch p).complete where
  regs := fun r h => by
    rw [State.readReg_complete _ _ (fun e => h (by simp [e])),
      State.readReg_withMatch _ _ _ (fun e => h (by simp [e]))]
  pb := fun _ => rfl
  psb := fun _ => rfl
  ports := ⟨rfl, rfl, rfl, rfl, rfl, rfl, rfl, rfl⟩

/-- Only the listed registers: a longer list is a weaker claim. -/
theorem OnlyRegs.mono {l m : List Reg} {s t : State} (h : OnlyRegs l s t) (hlm : l ⊆ m) : OnlyRegs m s t :=
  ⟨fun r hr => h.regs r (fun hm => hr (hlm hm)), h.pb, h.psb, h.ports⟩

/-! ### Writes that touch `PB` only -/

/-- `t` is `s` but for the contents of `PB`. -/
def State.PbOnly (s t : State) : Prop := t = { s with pb := t.pb }

theorem State.PbOnly.refl (s : State) : s.PbOnly s := rfl

theorem State.PbOnly.trans {s t u : State} (h : s.PbOnly t) (k : t.PbOnly u) : s.PbOnly u := by
  unfold State.PbOnly at *; rw [k, h]

theorem State.pbStore_pbOnly (s : State) (a : Nat) (bs : List Byte) : s.PbOnly (s.pbStore a bs) := rfl

theorem State.memWrite_pbOnly (s : State) (a n v : Nat) : s.PbOnly (s.memWrite a n v) := rfl

theorem State.memWrites_pbOnly (s : State) (ws : List (Nat × Nat × Nat)) : s.PbOnly (s.memWrites ws) :=
  State.memWrites_eq s ws

theorem State.inject_pbOnly (s : State) (f : Nat) (sumOf : State → BitVec 32) : s.PbOnly (s.inject f sumOf) := rfl

theorem State.swapEth_pbOnly (s : State) : s.PbOnly s.swapEth := State.memWrites_pbOnly s _

theorem State.swapIp_pbOnly (s : State) : s.PbOnly s.swapIp := State.memWrites_pbOnly s _

theorem State.arpReplyFrame_pbOnly (s : State) : s.PbOnly s.arpReplyFrame := State.memWrites_pbOnly s _

theorem State.arpRequestFrame_pbOnly (s : State) (ip : BitVec 32) : s.PbOnly (s.arpRequestFrame ip) :=
  State.memWrites_pbOnly s _

theorem State.icmpReplyFrame_pbOnly (s : State) : s.PbOnly s.icmpReplyFrame :=
  (s.swapEth_pbOnly.trans s.swapEth.swapIp_pbOnly).trans
    ((State.memWrite_pbOnly _ _ _ _).trans (State.inject_pbOnly _ _ _))

theorem State.udpReplyPorts_pbOnly (s : State) (u n : Nat) : s.PbOnly (s.udpReplyPorts u n) :=
  (s.swapEth_pbOnly.trans s.swapEth.swapIp_pbOnly).trans (State.memWrites_pbOnly _ _)

theorem State.udpReplyHeader_pbOnly (s : State) (u n : Nat) : s.PbOnly (s.udpReplyHeader u n) :=
  (s.udpReplyPorts_pbOnly u n).trans ((State.memWrite_pbOnly _ _ _ _).trans (State.inject_pbOnly _ _ _))

theorem State.udpReplyPayload_pbOnly (s : State) (u n : Nat) : s.PbOnly (s.udpReplyPayload u n) :=
  (s.udpReplyHeader_pbOnly u n).trans (State.pbStore_pbOnly _ _ _)

theorem State.tcpIpHeader_pbOnly (s : State) (f : Nat) : s.PbOnly (s.tcpIpHeader f) := State.memWrites_pbOnly s _

theorem State.tcpHeader_pbOnly (s : State) (f : Nat) : s.PbOnly (s.tcpHeader f) :=
  (s.tcpIpHeader_pbOnly f).trans (State.memWrites_pbOnly _ _)

theorem State.tcpFrame_pbOnly (s : State) (f : Nat) : s.PbOnly (s.tcpFrame f) :=
  (s.tcpHeader_pbOnly f).trans
    ((State.pbStore_pbOnly _ _ _).trans ((State.inject_pbOnly _ _ _).trans (State.inject_pbOnly _ _ _)))

/-- Every byte that a write of `PB` only leaves in `PSB`. -/
theorem State.PbOnly.psbAt {s t : State} (h : s.PbOnly t) (k : Nat) : t.psbAt k = s.psbAt k := by
  rw [h]; rfl

theorem State.PbOnly.readReg {s t : State} (h : s.PbOnly t) (r : Reg) : t.readReg r = s.readReg r := by
  rw [h]; cases r <;> rfl

/-- `Transmit(n)` on a frame that was built in `PB` (42_builders.md R180, R181). -/
theorem State.PbOnly.sent {s t : State} (h : s.PbOnly t) (n : Nat) : Sent n [] s (t.transmit n) := by
  constructor <;> try (rw [h]; rfl)
  · intro r hr
    rw [State.readReg_transmit _ _ _ (fun e => hr (by simp [e])) (fun e => hr (by simp [e])), h.readReg]
  · intro k; exact h.psbAt k

@[simp] theorem State.pbBytes_transmit (s : State) (a n m : Nat) : (s.transmit m).pbBytes a n = s.pbBytes a n := by rfl
@[simp] theorem State.memRead_transmit (s : State) (a n m : Nat) : (s.transmit m).memRead a n = s.memRead a n := by rfl
@[simp] theorem State.memRead_complete (s : State) (a n : Nat) : s.complete.memRead a n = s.memRead a n := by rfl
@[simp] theorem State.memRead_withResult (s : State) (a n v : Nat) :
    (s.withResult v).memRead a n = s.memRead a n := by rfl

/-! ### A checksum injected and handed back -/

/-- The two bytes of the field are the only bytes of `PB` that `Inject*` changes (40_checksum.md R134). -/
theorem State.inject_pbKept (s : State) (f : Nat) (sumOf : State → BitVec 32) :
    PbKeptOutside f 2 s (s.inject f sumOf) := fun k hk => State.pbAt_inject_of_ne s f k sumOf hk

theorem State.pbAt_injectCommand (s : State) (f k : Nat) (sumOf : State → BitVec 32) :
    (s.injectCommand f sumOf).pbAt k = (s.inject f sumOf).pbAt k := by
  simp only [State.pbAt, State.injectCommand_pb, State.injectCommand_epoch, State.inject_epoch]

/-- A checksum command that passes its checks: the field, `RESULT` and `ERR`, and nothing else (R135 to
R138). -/
theorem State.injectCommand_spec (s : State) (f : Nat) (sumOf : State → BitVec 32) :
    PbKeptOutside f 2 s (s.injectCommand f sumOf) ∧ RegsKept [.result, .err] s (s.injectCommand f sumOf)
      ∧ PsbKept s (s.injectCommand f sumOf) ∧ PortsKept s (s.injectCommand f sumOf) := by
  refine ⟨fun k hk => ?_, fun r hr => ?_, fun k => ?_, by constructor <;> simp⟩
  · rw [State.pbAt_injectCommand, State.pbAt_inject_of_ne s f k sumOf hk]
  · cases r <;> first | (simp [State.readReg]; done) | exact absurd (by decide) hr
  · simp only [State.psbAt, State.injectCommand_psb, State.injectCommand_epoch]

/-! ### A payload constructed -/

/-- A constructor that does not fault: the bytes from offset 0, their number in `PSB_LEN` and `RESULT`, and
nothing else but `ERR` (43_mqtt_payload.md R210). -/
theorem State.construct_spec (s : State) (bs : List Byte) :
    (s.construct bs).psbBytes 0 bs.length = bs
      ∧ (∀ k, bs.length ≤ k → (s.construct bs).psbAt k = s.psbAt k)
      ∧ RegsKept [.psbLen, .result, .err] s (s.construct bs) ∧ PbKept s (s.construct bs)
      ∧ PortsKept s (s.construct bs) := by
  have e : ∀ k, (s.construct bs).psbAt k = (s.psbStore 0 bs).psbAt k := fun k => by
    simp only [State.psbAt, State.construct_psb, State.construct_epoch, State.psbStore_epoch]
  refine ⟨?_, fun k hk => ?_, fun r hr => ?_, fun k => ?_, by constructor <;> simp⟩
  · rw [State.psbBytes_congr _ _ _ _ (fun k _ _ => e k), State.psbBytes_psbStore_same s 0 _ bs rfl]
  · rw [e, State.psbAt_psbStore, if_neg (by omega)]
  · cases r <;> first | (simp [State.readReg]; done) | exact absurd (by decide) hr
  · simp only [State.pbAt, State.construct_pb, State.construct_epoch]

/-! ### The driver -/

/-- The poll of the overflow indicator writes `OVF` and asks the driver once (45_system.md R255). -/
theorem State.pollOverflow_spec (s : State) :
    s.pollOverflow = { s with
      flags := { s.flags with ovf := s.nextOvfAnswer }, ovfAnswers := s.ovfAnswers.tail, draws := s.draws + 1 } :=
  rfl

/-! ### The canonical form, kept -/

theorem State.Bounded.pbStore {s : State} (h : s.Bounded) (a : Nat) (bs : List Byte)
    (hb : a + bs.length ≤ Config.pbCap) : (s.pbStore a bs).Bounded :=
  ⟨Memory.wf_setMany bs _ _ h.pbWf, Memory.within_setMany _ bs _ _ h.pbWithin hb, h.psbWf, h.psbWithin,
    h.rxLenLe, h.psbLenLe⟩

theorem State.Bounded.psbStore {s : State} (h : s.Bounded) (a : Nat) (bs : List Byte)
    (hb : a + bs.length ≤ Config.psbCap) : (s.psbStore a bs).Bounded :=
  ⟨h.pbWf, h.pbWithin, Memory.wf_setMany bs _ _ h.psbWf, Memory.within_setMany _ bs _ _ h.psbWithin hb,
    h.rxLenLe, h.psbLenLe⟩

theorem State.Bounded.memWrite {s : State} (h : s.Bounded) (a n v : Nat) (hb : a + n ≤ Config.pbCap) :
    (s.memWrite a n v).Bounded := h.pbStore a _ (by rwa [beBytes_length])

theorem State.Bounded.memWrites {s : State} (h : s.Bounded) (ws : List (Nat × Nat × Nat))
    (hb : ∀ w ∈ ws, w.1 + w.2.1 ≤ Config.pbCap) : (s.memWrites ws).Bounded := by
  induction ws generalizing s with
  | nil => exact h
  | cons w ws ih =>
    rw [State.memWrites_cons]
    exact ih (h.memWrite _ _ _ (hb w (by simp))) (fun v hv => hb v (by simp [hv]))

theorem State.Bounded.inject {s : State} (h : s.Bounded) (f : Nat) (sumOf : State → BitVec 32)
    (hb : f + 2 ≤ Config.pbCap) : (s.inject f sumOf).Bounded :=
  (h.memWrite f 2 0 hb).memWrite f 2 _ hb

/-! ### What a checksum command checks -/

/-- The three checks, and what holds when none of them stops the command (40_checksum.md R136 to R138). -/
theorem State.l4Fault_eq_none (s : State) (least : Nat) :
    s.l4Fault least = none ↔ s.ihl ≤ s.ipTotLen ∧ 14 + s.ipTotLen ≤ 1522 ∧ least ≤ s.l4Len := by
  unfold State.l4Fault Config.pbCap
  split <;> [skip; split <;> [skip; split]] <;> simp only [reduceCtorEq, true_iff, false_iff] <;> omega

/-! ### Header location -/

theorem State.ihl_eq (s : State) : s.ihl = (s.pbAt 14).toNat % 16 * 4 := by rw [State.ihl, State.memRead_one]

theorem State.ihl_le (s : State) : s.ihl ≤ 60 := by unfold State.ihl; omega

theorem State.ihl_dvd (s : State) : s.ihl % 4 = 0 := by unfold State.ihl; omega

theorem State.ipTotLen_eq (s : State) : s.ipTotLen = (s.pbAt 16).toNat * 256 + (s.pbAt 17).toNat := by
  rw [State.ipTotLen, State.memRead_two]

theorem State.tcpDoff_lt (s : State) : s.tcpDoff < 16 := by
  have := State.memRead_lt s (s.l4Base + 12) 1
  unfold State.tcpDoff; omega

theorem State.ihl_congr (s t : State) (h : t.pbAt 14 = s.pbAt 14) : t.ihl = s.ihl := by
  rw [State.ihl_eq, State.ihl_eq, h]

theorem State.l4Base_congr (s t : State) (h : t.pbAt 14 = s.pbAt 14) : t.l4Base = s.l4Base := by
  rw [State.l4Base, State.l4Base, State.ihl_congr s t h]

theorem State.ipTotLen_congr (s t : State) (h : t.pbAt 16 = s.pbAt 16) (h2 : t.pbAt 17 = s.pbAt 17) :
    t.ipTotLen = s.ipTotLen := by
  rw [State.ipTotLen_eq, State.ipTotLen_eq, h, h2]

theorem State.l4Len_congr (s t : State) (h : t.pbAt 14 = s.pbAt 14) (h1 : t.pbAt 16 = s.pbAt 16)
    (h2 : t.pbAt 17 = s.pbAt 17) : t.l4Len = s.l4Len := by
  rw [State.l4Len, State.l4Len, State.ihl_congr s t h, State.ipTotLen_congr s t h1 h2]

end Sys2Proof.Machine
end

