-- ==== Sys2Proof/Laws/Frames.lean ====
section
/-! SUPPORT. What the steps of the builders leave in `PB` byte by byte (42_builders.md R184 to R186), and when
an injected checksum makes a sum fold to zero (40_checksum.md R134, R139). -/

namespace Sys2Proof.Machine

/-! ### Copies and exchanges -/

theorem State.pbAt_of_eq (s : State) {a b : Nat} (h : a = b) : s.pbAt a = s.pbAt b := by rw [h]

/-- A field written with what another field of the buffer holds is a copy of its bytes (R63, R64). -/
theorem State.pbAt_copy (s t : State) (a b n k : Nat) (h1 : a ≤ k) (h2 : k < a + n) :
    (t.memWrite a n (s.memRead b n)).pbAt k = s.pbAt (b + (k - a)) := by
  rw [State.memWrite, State.pbAt_pbStore, beBytes_length, if_pos ⟨h1, h2⟩, State.memRead]
  have hl : (s.pbBytes b n).length = n := State.pbBytes_length _ _ _
  have e : beBytes n (beNat (s.pbBytes b n)) = s.pbBytes b n := by
    apply List.ext_getElem?
    intro i
    by_cases hi : i < n
    · rw [beBytes_getElem? _ _ _ hi]
      have : s.pbBytes b n = (s.pbBytes b n).take i ++ ((s.pbBytes b n)[i]'(by omega)) :: (s.pbBytes b n).drop (i+1) := by simp
      rw [List.getElem?_eq_getElem (by omega)]
      congr 1
      conv_lhs => rw [this]
      rw [beNat_append, beNat_cons]
      have hlt := beNat_lt ((s.pbBytes b n).drop (i+1))
      have hd : ((s.pbBytes b n).drop (i+1)).length = n - 1 - i := by simp; omega
      rw [hd] at hlt
      simp only [List.length_cons, hd]
      generalize beNat ((s.pbBytes b n).take i) = A at *
      generalize beNat ((s.pbBytes b n).drop (i+1)) = B at *
      generalize (s.pbBytes b n)[i]'(by omega) = C at *
      apply BitVec.eq_of_toNat_eq
      have hC := C.isLt
      rw [BitVec.toNat_ofNat, Nat.pow_succ]
      rw [show A * (256 ^ (n-1-i) * 256) + (C.toNat * 256 ^ (n-1-i) + B) = B + 256 ^ (n-1-i) * (A * 256 + C.toNat) by ring, Nat.add_mul_div_left _ _ (by positivity), Nat.div_eq_of_lt hlt]
      omega
    · rw [List.getElem?_eq_none (by simp; omega), List.getElem?_eq_none (by omega)]
  rw [e, List.getD_eq_getElem?_getD, State.pbBytes, List.getElem?_map, List.getElem?_range (by omega)]; rfl

theorem State.pbAt_swapEth (s : State) (k : Nat) :
    s.swapEth.pbAt k = if k < 6 then s.pbAt (k + 6) else if k < 12 then s.pbAt (k - 6) else s.pbAt k := by
  unfold State.swapEth
  simp only [State.memWrites_cons, State.memWrites_nil]
  by_cases h : 6 ≤ k ∧ k < 6 + 6
  · rw [State.pbAt_copy _ _ _ _ _ _ h.1 h.2, if_neg (by omega),
      if_pos (by omega)]; exact State.pbAt_of_eq _ (by omega)
  · rw [State.pbAt_memWrite, if_neg h]
    by_cases h2 : k < 6
    · rw [State.pbAt_copy _ _ _ _ _ _ (by omega) (by omega), if_pos h2]; exact State.pbAt_of_eq _ (by omega)
    · rw [State.pbAt_memWrite, if_neg (by omega), if_neg h2, if_neg (by omega)]

theorem State.pbAt_swapIp (s : State) (k : Nat) :
    s.swapIp.pbAt k = if 26 ≤ k ∧ k < 30 then s.pbAt (k + 4) else if 30 ≤ k ∧ k < 34 then s.pbAt (k - 4) else s.pbAt k := by
  unfold State.swapIp
  simp only [State.memWrites_cons, State.memWrites_nil]
  by_cases h : 30 ≤ k ∧ k < 30 + 4
  · rw [State.pbAt_copy _ _ _ _ _ _ h.1 h.2, if_neg (by omega),
      if_pos (by omega)]; exact State.pbAt_of_eq _ (by omega)
  · rw [State.pbAt_memWrite, if_neg h]
    by_cases h2 : 26 ≤ k ∧ k < 30
    · rw [State.pbAt_copy _ _ _ _ _ _ (by omega) (by omega), if_pos h2]; exact State.pbAt_of_eq _ (by omega)
    · rw [State.pbAt_memWrite, if_neg (by omega), if_neg h2, if_neg (by omega)]

theorem State.pbAt_swapped_of_outside (s : State) (k : Nat) (h : 12 ≤ k) (h2 : k < 26 ∨ 34 ≤ k) :
    s.swapEth.swapIp.pbAt k = s.pbAt k := by
  rw [State.pbAt_swapIp, if_neg (by omega), if_neg (by omega), State.pbAt_swapEth, if_neg (by omega),
      if_neg (by omega)]

theorem State.pbAt_swapped_mac (s : State) (k : Nat) (h : k < 12) :
    s.swapEth.swapIp.pbAt k = if k < 6 then s.pbAt (k + 6) else s.pbAt (k - 6) := by
  rw [State.pbAt_swapIp, if_neg (by omega), if_neg (by omega), State.pbAt_swapEth]; split <;> simp_all

theorem State.pbAt_swapped_ip (s : State) (k : Nat) (h : 26 ≤ k) (h2 : k < 34) :
    s.swapEth.swapIp.pbAt k = if k < 30 then s.pbAt (k + 4) else s.pbAt (k - 4) := by
  rw [State.pbAt_swapIp]; split
  · rw [if_pos (by omega), State.pbAt_swapEth, if_neg (by omega), if_neg (by omega)]
  · rw [if_pos (by omega), if_neg (by omega), State.pbAt_swapEth, if_neg (by omega), if_neg (by omega)]

/-! ### Sums -/

/-- Exchanging the two addresses leaves the header sum (R184). -/
theorem exactWordSum_swapped (s t : State) (n : Nat) (hn : 20 ≤ n)
    (h : ∀ k, 14 ≤ k → k < 14 + n → t.pbAt k = if 26 ≤ k ∧ k < 30 then s.pbAt (k + 4)
      else if 30 ≤ k ∧ k < 34 then s.pbAt (k - 4) else s.pbAt k) :
   exactWordSum t.pbAt 14 n = exactWordSum s.pbAt 14 n := by
  obtain ⟨m, rfl⟩ : ∃ m, n = 2 * 6 + (2 * 2 + (2 * 2 + m)) := ⟨n - 20, by omega⟩
  simp only [exactWordSum_add]
  rw [exactWordSum_congr s.pbAt t.pbAt 14 (2*6) (fun k h1 h2 => by rw [h k (by omega) (by omega),
      if_neg (by omega), if_neg (by omega)]),
     exactWordSum_congr s.pbAt t.pbAt _ m (fun k h1 h2 => by rw [h k (by omega) (by omega),
         if_neg (by omega), if_neg (by omega)])]
  have e1 : exactWordSum t.pbAt (14 + 2*6) (2*2) = exactWordSum s.pbAt (14 + 2*6 + 2*2) (2*2) := by
    simp only [show 2 * 2 = 0 + 2 + 2 by rfl, exactWordSum_step, exactWordSum_zero]
    rw [h _ (by omega) (by omega), h _ (by omega) (by omega), h _ (by omega) (by omega),
        h _ (by omega) (by omega)]
    simp
  have e2 : exactWordSum t.pbAt (14 + 2*6 + 2*2) (2*2) = exactWordSum s.pbAt (14 + 2*6) (2*2) := by
    simp only [show 2 * 2 = 0 + 2 + 2 by rfl, exactWordSum_step, exactWordSum_zero]
    rw [h _ (by omega) (by omega), h _ (by omega) (by omega), h _ (by omega) (by omega),
        h _ (by omega) (by omega)]
    simp
  rw [e1, e2]; omega

theorem State.icmpSum_toNat (t : State) (hb : t.l4Len < 65536) : t.icmpSum.toNat = exactWordSum t.pbAt t.l4Base t.l4Len := by
  have := exactWordSum_le t.pbAt t.l4Len t.l4Base
  rw [State.icmpSum, State.acc_toNat]; simp only [BitVec.ofNat_eq_ofNat, BitVec.toNat_ofNat]; omega
/-- After `InjectIcmp()` the ICMP message folds to zero. -/
theorem State.fold_icmpSum_inject (s : State) (hl : 4 ≤ s.l4Len) (hb : s.l4Len < 65536)
    (hx : 18 ≤ s.l4Base) :
    fold (s.inject (s.l4Base + 2) State.icmpSum).icmpSum = 0 := by
  have o1 : ∀ j, j < 20 → (s.inject (s.l4Base + 2) State.icmpSum).pbAt j = s.pbAt j := fun j hj =>
      State.pbAt_inject_of_ne _ _ _ _ (by omega)
  have o2 : ∀ j, j < 20 → (s.memWrite (s.l4Base + 2) 2 0).pbAt j = s.pbAt j := fun j hj =>
      by rw [State.pbAt_memWrite, if_neg (by omega)]
  have a1 := State.l4Base_congr _ _ (o1 14 (by omega))
  have a2 := State.l4Base_congr _ _ (o2 14 (by omega))
  have b1 := State.l4Len_congr _ _ (o1 14 (by omega)) (o1 16 (by omega)) (o1 17 (by omega))
  have b2 := State.l4Len_congr _ _ (o2 14 (by omega)) (o2 16 (by omega)) (o2 17 (by omega))
  apply fold_add_fold ((s.memWrite (s.l4Base + 2) 2 0).icmpSum)
  rw [State.icmpSum_toNat _ (by omega), State.icmpSum_toNat _ (by omega), a1, a2, b1, b2,
    State.exactWordSum_inject s s.l4Base s.l4Len _ _ (by omega) (by omega) (by omega)]
  rfl

/-- After `InjectIp()` a header that covers its checksum field folds to zero. -/
theorem State.fold_ipSum_inject (s : State) (h : 12 ≤ s.ihl) : fold (s.inject 24 State.ipSum).ipSum = 0 := by
  have e1 : (s.inject 24 State.ipSum).ihl = s.ihl :=
      State.ihl_congr _ _ (State.pbAt_inject_of_ne _ _ _ _ (by omega))
  have e2 : (s.memWrite 24 2 0).ihl = s.ihl := State.ihl_congr _ _ (by rw [State.pbAt_memWrite,
      if_neg (by omega)])
  apply fold_add_fold (s.memWrite 24 2 0).ipSum
  rw [State.ipSum_toNat, State.ipSum_toNat, e1, e2,
      State.exactWordSum_inject s 14 s.ihl 24 _ (by omega) (by omega) (by omega)]
  rfl

/-- After `InjectUdp()` or `InjectTcp()` the datagram with its pseudo-header folds to zero, if the checksum
field does not lie on the two addresses. -/
theorem State.fold_l4Sum_inject (s : State) (p k : Nat) (hp : p < 65536) (hk : k % 2 = 0)
    (h18 : 18 ≤ s.l4Base) (ha : s.l4Base + k + 2 ≤ 26 ∨ 34 ≤ s.l4Base + k)
    (hl : k + 2 ≤ s.l4Len) (hb : s.l4Len < 65536) :
    fold ((s.inject (s.l4Base + k) (fun t => t.l4Sum p)).l4Sum p) = 0 := by
  have o1 : ∀ j, j < 18 ∨ 26 ≤ j ∧ j < 34 →
      (s.inject (s.l4Base + k) (fun t => t.l4Sum p)).pbAt j = s.pbAt j := fun j hj =>
    State.pbAt_inject_of_ne _ _ _ _ (by omega)
  have o2 : ∀ j, j < 18 ∨ 26 ≤ j ∧ j < 34 → (s.memWrite (s.l4Base + k) 2 0).pbAt j = s.pbAt j := fun j hj => by
    rw [State.pbAt_memWrite, if_neg (by omega)]
  have a1 := State.l4Base_congr _ _ (o1 14 (by omega))
  have a2 := State.l4Base_congr _ _ (o2 14 (by omega))
  have b1 := State.l4Len_congr _ _ (o1 14 (by omega)) (o1 16 (by omega)) (o1 17 (by omega))
  have b2 := State.l4Len_congr _ _ (o2 14 (by omega)) (o2 16 (by omega)) (o2 17 (by omega))
  apply fold_add_fold ((s.memWrite (s.l4Base + k) 2 0).l4Sum p)
  rw [State.l4Sum_toNat _ _ hp (by omega), State.l4Sum_toNat _ _ hp (by omega), a1, a2, b1, b2,
    exactWordSum_congr s.pbAt _ 26 8 (fun j _ hj => o1 j (by omega)),
        exactWordSum_congr s.pbAt (s.memWrite (s.l4Base + k) 2 0).pbAt 26 8 (fun j _ hj => o2 j (by omega)),
    State.exactWordSum_inject s s.l4Base s.l4Len _ _ (by omega) (by omega) (by omega)]
  change _ = _ + (s.checksumFor (s.l4Base + k) (fun t => t.l4Sum p)).toNat
  omega

/-- The layer-4 sum depends on the bytes of `PB` alone. -/
theorem State.l4Sum_congr (s t : State) (p : Nat) (h : ∀ k, t.pbAt k = s.pbAt k) : t.l4Sum p = s.l4Sum p := by
  rw [State.l4Sum, State.l4Sum, State.pseudoSum, State.pseudoSum, State.acc_congr _ _ _ _ _ (fun k _ _ => h k),
    State.acc_congr _ _ _ _ _ (fun k _ _ => h k), State.l4Base_congr _ _ (h 14),
    State.l4Len_congr _ _ (h 14) (h 16) (h 17)]

/-- The header sum depends on the header bytes alone. -/
theorem State.ipSum_congr (s t : State) (h : ∀ k, 14 ≤ k → k < 14 + s.ihl ∨ k = 14 → t.pbAt k = s.pbAt k) :
    t.ipSum = s.ipSum := by
  rw [State.ipSum, State.ipSum, State.ihl_congr s t (h 14 (by omega) (by omega))]
  exact State.acc_congr _ _ _ _ _ (fun k h1 h2 => h k h1 (by omega))

/-! ### `Transmit` changes no byte -/

theorem State.acc_transmit (s : State) (m a n : Nat) (x : BitVec 32) :
    (s.transmit m).acc a n x = s.acc a n x :=
  State.acc_congr _ _ _ _ _ (fun _ _ _ => State.pbAt_transmit _ _ _)

theorem State.l4Base_transmit (s : State) (m : Nat) :
    (s.transmit m).l4Base = s.l4Base :=
  State.l4Base_congr _ _ (State.pbAt_transmit _ _ _)

theorem State.ihl_transmit (s : State) (m : Nat) :
    (s.transmit m).ihl = s.ihl :=
  State.ihl_congr _ _ (State.pbAt_transmit _ _ _)

theorem State.l4Len_transmit (s : State) (m : Nat) :
    (s.transmit m).l4Len = s.l4Len :=
  State.l4Len_congr _ _ (State.pbAt_transmit _ _ _) (State.pbAt_transmit _ _ _) (State.pbAt_transmit _ _ _)

theorem State.ipSum_transmit (s : State) (m : Nat) :
    (s.transmit m).ipSum = s.ipSum := by
  rw [State.ipSum, State.ipSum, State.acc_transmit, State.ihl_transmit]

theorem State.l4Sum_transmit (s : State) (m p : Nat) :
    (s.transmit m).l4Sum p = s.l4Sum p := by
  rw [State.l4Sum, State.l4Sum, State.pseudoSum, State.pseudoSum, State.acc_transmit, State.acc_transmit,
      State.l4Base_transmit, State.l4Len_transmit]

/-! ### The UDP reply, part by part -/

theorem State.pbAt_udpReplyPorts (s : State) (u n k : Nat) (h : k < u ∨ u + 6 ≤ k) :
    (s.udpReplyPorts u n).pbAt k = s.swapEth.swapIp.pbAt k := by
  unfold State.udpReplyPorts
  exact State.pbAt_memWrites_of_outside _ _ _ (by simp; omega)

theorem State.pbAt_udpReplyHeader (s : State) (u n k : Nat) (h : k < 16 ∨ 18 ≤ k) (h2 : k ≠ 24) (h3 : k ≠ 25) :
    (s.udpReplyHeader u n).pbAt k = (s.udpReplyPorts u n).pbAt k := by
  unfold State.udpReplyHeader State.injectIp
  rw [State.pbAt_inject_of_ne _ _ _ _ (by omega), State.pbAt_memWrite, if_neg (by omega)]

theorem State.pbAt_udpReplyPayload (s : State) (u n k : Nat) (h : k < u + 8 ∨ u + 8 + n ≤ k) :
    (s.udpReplyPayload u n).pbAt k = (s.udpReplyHeader u n).pbAt k := by
  unfold State.udpReplyPayload
  rw [State.pbAt_pbStore, if_neg (by simp; omega)]

end Sys2Proof.Machine
end

