-- ==== Sys2Proof/Laws/PerInstr.lean ====
section
/-! SUPPORT. The family `EncodingShape`, made for each command: a command that has an encoding is encoded
with an opcode byte of the opcode map (30_encoding.md R105) at exactly the length that the format of that
opcode requires (R102, R104). -/

namespace Sys2Proof.Laws

open Sys2Proof Sys2Proof.Machine

namespace EncodingShape

/-- The encoding starts with an opcode of the map and has the length its format requires. -/
def Statement (i : Instr) : Prop :=
  i.wf = true → ∃ op args fmt, encode i = op :: args ∧ formatOf op = some fmt
    ∧ fmt.fixedLength ≤ (encode i).length ∧ (encode i).length = fmt.requiredLength (encode i)

end EncodingShape

open EncodingShape in
/-- The commands of the formats of one length. -/
theorem encodingShape_of_fixed {i : Instr} (op : Byte) (args : List Byte) (fmt : Format)
    (he : encode i = op :: args) (hf : formatOf op = some fmt) (hl : args.length + 1 = fmt.fixedLength)
    (hr : ∀ bs, fmt.requiredLength bs = fmt.fixedLength) : Statement i := fun _ =>
  ⟨op, args, fmt, he, hf, by rw [he, List.length_cons]; omega, by rw [he, List.length_cons, hr]; omega⟩

open EncodingShape in
/-- The four commands of format `S`. -/
theorem encodingShape_of_string (op : Byte) (data : List Byte) (k : List Byte → Instr)
    (hf : formatOf op = some (.s k)) (he : encode (k data) = op :: lengthPrefixed data)
    (hw : (k data).wf = true → data.length < 65536) : Statement (k data) := by
  intro h
  refine ⟨op, _, _, he, hf, ?_, ?_⟩
  · rw [he]; simp [lengthPrefixed, Format.fixedLength]
  · have e := operand_lengthPrefixed op data [] (hw h)
    rw [List.append_nil] at e
    rw [he, Format.requiredLength, e]
    simp [lengthPrefixed]; omega

namespace EncodingShape

theorem rd (reg : Byte) : Statement (.rd reg) :=
  encodingShape_of_fixed _ _ _ rfl rfl (by simp [Format.fixedLength]) (fun _ => rfl)

theorem wr (reg : Byte) (val : BitVec 48) : Statement (.wr reg val) :=
  encodingShape_of_fixed _ _ _ rfl rfl (by simp [Format.fixedLength]) (fun _ => rfl)

theorem ipvalid (reg : Byte) : Statement (.ipvalid reg) :=
  encodingShape_of_fixed _ _ _ rfl rfl (by simp [Format.fixedLength]) (fun _ => rfl)

theorem ctxLoad : Statement .ctxLoad :=
  encodingShape_of_fixed _ _ _ rfl rfl rfl (fun _ => rfl)

theorem rxLoad (data : List Byte) : Statement (.rxLoad data) :=
  encodingShape_of_string _ _ _ rfl rfl (fitsLength_iff _).1

theorem rxOvf : Statement .rxOvf :=
  encodingShape_of_fixed _ _ _ rfl rfl rfl (fun _ => rfl)

theorem pbRd (off : BitVec 16) : Statement (.pbRd off) :=
  encodingShape_of_fixed _ _ _ rfl rfl (by simp [Format.fixedLength]) (fun _ => rfl)

theorem pbWr (off : BitVec 16) (byte : Byte) : Statement (.pbWr off byte) :=
  encodingShape_of_fixed _ _ _ rfl rfl (by simp [Format.fixedLength]) (fun _ => rfl)

theorem psbLoad (data : List Byte) : Statement (.psbLoad data) :=
  encodingShape_of_string _ _ _ rfl rfl (fitsLength_iff _).1

theorem psbRd (off : BitVec 16) : Statement (.psbRd off) :=
  encodingShape_of_fixed _ _ _ rfl rfl (by simp [Format.fixedLength]) (fun _ => rfl)

theorem acc (off : BitVec 16) (cnt : BitVec 16) : Statement (.acc off cnt) :=
  encodingShape_of_fixed _ _ _ rfl rfl (by simp [Format.fixedLength]) (fun _ => rfl)

theorem fold : Statement .fold :=
  encodingShape_of_fixed _ _ _ rfl rfl rfl (fun _ => rfl)

theorem ckIp : Statement .ckIp :=
  encodingShape_of_fixed _ _ _ rfl rfl rfl (fun _ => rfl)

theorem ckIcmp : Statement .ckIcmp :=
  encodingShape_of_fixed _ _ _ rfl rfl rfl (fun _ => rfl)

theorem ckUdp : Statement .ckUdp :=
  encodingShape_of_fixed _ _ _ rfl rfl rfl (fun _ => rfl)

theorem ckTcp : Statement .ckTcp :=
  encodingShape_of_fixed _ _ _ rfl rfl rfl (fun _ => rfl)

theorem isIp : Statement .isIp :=
  encodingShape_of_fixed _ _ _ rfl rfl rfl (fun _ => rfl)

theorem isIpUnicast : Statement .isIpUnicast :=
  encodingShape_of_fixed _ _ _ rfl rfl rfl (fun _ => rfl)

theorem isArpRequest : Statement .isArpRequest :=
  encodingShape_of_fixed _ _ _ rfl rfl rfl (fun _ => rfl)

theorem isArpReply : Statement .isArpReply :=
  encodingShape_of_fixed _ _ _ rfl rfl rfl (fun _ => rfl)

theorem isPingRequest : Statement .isPingRequest :=
  encodingShape_of_fixed _ _ _ rfl rfl rfl (fun _ => rfl)

theorem isUdp : Statement .isUdp :=
  encodingShape_of_fixed _ _ _ rfl rfl rfl (fun _ => rfl)

theorem isTcp : Statement .isTcp :=
  encodingShape_of_fixed _ _ _ rfl rfl rfl (fun _ => rfl)

theorem isTcpAck : Statement .isTcpAck :=
  encodingShape_of_fixed _ _ _ rfl rfl rfl (fun _ => rfl)

theorem isTcpFinAck : Statement .isTcpFinAck :=
  encodingShape_of_fixed _ _ _ rfl rfl rfl (fun _ => rfl)

theorem isTcpResetAck : Statement .isTcpResetAck :=
  encodingShape_of_fixed _ _ _ rfl rfl rfl (fun _ => rfl)

theorem isMqttConnectAck : Statement .isMqttConnectAck :=
  encodingShape_of_fixed _ _ _ rfl rfl rfl (fun _ => rfl)

theorem isMqttSubAck : Statement .isMqttSubAck :=
  encodingShape_of_fixed _ _ _ rfl rfl rfl (fun _ => rfl)

theorem isMqttUnSubAck : Statement .isMqttUnSubAck :=
  encodingShape_of_fixed _ _ _ rfl rfl rfl (fun _ => rfl)

theorem isMqttPublish : Statement .isMqttPublish :=
  encodingShape_of_fixed _ _ _ rfl rfl rfl (fun _ => rfl)

theorem buildArpReply : Statement .buildArpReply :=
  encodingShape_of_fixed _ _ _ rfl rfl rfl (fun _ => rfl)

theorem buildArpRequest (ip : BitVec 32) : Statement (.buildArpRequest ip) :=
  encodingShape_of_fixed _ _ _ rfl rfl (by simp [Format.fixedLength]) (fun _ => rfl)

theorem buildIcmpEchoReply : Statement .buildIcmpEchoReply :=
  encodingShape_of_fixed _ _ _ rfl rfl rfl (fun _ => rfl)

theorem buildUdpReply : Statement .buildUdpReply :=
  encodingShape_of_fixed _ _ _ rfl rfl rfl (fun _ => rfl)

theorem buildTcpSegment (flags : BitVec 16) : Statement (.buildTcpSegment flags) :=
  encodingShape_of_fixed _ _ _ rfl rfl (by simp [Format.fixedLength]) (fun _ => rfl)

theorem mqConnect : Statement .mqConnect :=
  encodingShape_of_fixed _ _ _ rfl rfl rfl (fun _ => rfl)

theorem mqSubscribe (topic : List Byte) : Statement (.mqSubscribe topic) :=
  encodingShape_of_string _ _ _ rfl rfl (fitsLength_iff _).1

theorem mqUnsubscribe (topic : List Byte) : Statement (.mqUnsubscribe topic) :=
  encodingShape_of_string _ _ _ rfl rfl (fitsLength_iff _).1

theorem mqPublish (topic data : List Byte) : Statement (.mqPublish topic data) := by
  intro h
  simp only [Instr.wf, Bool.and_eq_true, fitsLength_iff] at h
  refine ⟨_, _, _, rfl, rfl, ?_, ?_⟩
  · simp [encode, lengthPrefixed, Format.fixedLength]; omega
  · have e1 : operand (encode (.mqPublish topic data)) 1 2 = topic.length :=
      operand_lengthPrefixed 0x43 topic (lengthPrefixed data) h.1
    have e2 : operand (encode (.mqPublish topic data)) (3 + topic.length) 2 = data.length := by
      have e : encode (.mqPublish topic data)
          = (0x43 :: lengthPrefixed topic) ++ beBytes 2 data.length ++ data := by
        simp [encode, lengthPrefixed]
      rw [e, operand_at _ _ _ _ _ (by simp [lengthPrefixed]; omega) (beBytes_length _ _),
        beNat_beBytes_of_lt _ _ h.2]
    rw [Format.requiredLength, e1, e2]
    simp [encode, lengthPrefixed]; omega

theorem mqDisconnect : Statement .mqDisconnect :=
  encodingShape_of_fixed _ _ _ rfl rfl rfl (fun _ => rfl)

theorem fsmConnect : Statement .fsmConnect :=
  encodingShape_of_fixed _ _ _ rfl rfl rfl (fun _ => rfl)

theorem fsmStep : Statement .fsmStep :=
  encodingShape_of_fixed _ _ _ rfl rfl rfl (fun _ => rfl)

end EncodingShape

end Sys2Proof.Laws
end

