-- ==== Sys2Proof/Tests/Slice0.lean ====
section
/-! SUPPORT. The tests of Slice0: one decoding for each command, written out from the formats of
30_encoding.md; an ill-formed term for each check of well-formedness; one or two steps for each command with
the expected values of 95_test_vectors.md (named there by the ids quoted here); and, for each statement with
hypotheses, states and operands that meet them. -/

namespace Sys2Proof.Tests

open Sys2Proof Sys2Proof.Machine

/-! ### The sample configuration and the frames of 95_test_vectors.md section 2 -/

/-- T0, with the broker's real hardware address. -/
def T0 : State := { State.reset with
  localMac := 0x020304050607, localIp := 0xC0A801C7, brokerIp := 0xC0A8010A, brokerMac := 0x001122334455,
  gatewayIp := 0, ipId := 1, ctxSrcPort := 0xC001, sum := 0, tcpSeq := 1, tcpAck := 0xAABBCCDD,
  ctxSrcMac := 0x020304050607, ctxDstMac := 0x001122334455, ctxSrcIp := 0xC0A801C7, ctxDstIp := 0xC0A8010A,
  ctxDstPort := 0x075B, params := ⟨0x40, 0x0500, 0x61, 0x62, 0x63⟩,
  txAnswers := [true], ovfAnswers := [true, false] }

/-- T0 with bytes in `PB` from offset 0. -/
def holding (f : List Byte) : State := { T0 with pb := Memory.setMany [] 0 f }

/-- The state after a command, from `exec`. -/
def after (i : Instr) (s : State) : State :=
  match exec i s with
  | .next t => t
  | .fault r => nomatch r
  | .refused _ => s

/-- T0 with one command on the command port. -/
def asked (bytes : List Byte) : State := { T0 with inbox := [.command bytes] }

def F1 : List Byte :=
  [0xFF, 0xFF, 0xFF, 0xFF, 0xFF, 0xFF, 0x00, 0x11, 0x22, 0x33, 0x44, 0x55, 0x08, 0x06, 0x00, 0x01,
   0x08, 0x00, 0x06, 0x04, 0x00, 0x01, 0x00, 0x11, 0x22, 0x33, 0x44, 0x55, 0xC0, 0xA8, 0x01, 0x0A,
   0x00, 0x00, 0x00, 0x00, 0x00, 0x00, 0xC0, 0xA8, 0x01, 0xC7]

def F2 : List Byte :=
  [0x02, 0x03, 0x04, 0x05, 0x06, 0x07, 0x00, 0x11, 0x22, 0x33, 0x44, 0x55, 0x08, 0x06, 0x00, 0x01,
   0x08, 0x00, 0x06, 0x04, 0x00, 0x02, 0x00, 0x11, 0x22, 0x33, 0x44, 0x55, 0xC0, 0xA8, 0x01, 0x0A,
   0x02, 0x03, 0x04, 0x05, 0x06, 0x07, 0xC0, 0xA8, 0x01, 0xC7]

def F3 : List Byte :=
  [0x02, 0x03, 0x04, 0x05, 0x06, 0x07, 0x00, 0x11, 0x22, 0x33, 0x44, 0x55, 0x08, 0x00, 0x45, 0x00,
   0x00, 0x24, 0x12, 0x34, 0x00, 0x00, 0x40, 0x01, 0xE4, 0x83, 0xC0, 0xA8, 0x01, 0x0A, 0xC0, 0xA8,
   0x01, 0xC7, 0x08, 0x00, 0x66, 0x62, 0x00, 0x01, 0x00, 0x07, 0x61, 0x62, 0x63, 0x64, 0x65, 0x66,
   0x67, 0x68]

def F4 : List Byte :=
  [0x02, 0x03, 0x04, 0x05, 0x06, 0x07, 0x00, 0x11, 0x22, 0x33, 0x44, 0x55, 0x08, 0x00, 0x45, 0x00,
   0x00, 0x1E, 0x12, 0x34, 0x00, 0x00, 0x40, 0x11, 0xE4, 0x79, 0xC0, 0xA8, 0x01, 0x0A, 0xC0, 0xA8,
   0x01, 0xC7, 0x30, 0x39, 0x04, 0x00, 0x00, 0x0A, 0xD8, 0x10, 0x6F, 0x6E]

def F5 : List Byte :=
  [0x02, 0x03, 0x04, 0x05, 0x06, 0x07, 0x00, 0x11, 0x22, 0x33, 0x44, 0x55, 0x08, 0x00, 0x45, 0x00,
   0x00, 0x2C, 0x00, 0x00, 0x00, 0x00, 0x40, 0x06, 0xF6, 0xAA, 0xC0, 0xA8, 0x01, 0x0A, 0xC0, 0xA8,
   0x01, 0xC7, 0x07, 0x5B, 0xC0, 0x01, 0xAA, 0xBB, 0xCC, 0xDD, 0x00, 0x00, 0x00, 0x01, 0x60, 0x12,
   0x72, 0x10, 0x62, 0xED, 0x00, 0x00, 0x02, 0x04, 0x05, 0xB4]

def F6 : List Byte :=
  [0x02, 0x03, 0x04, 0x05, 0x06, 0x07, 0x00, 0x11, 0x22, 0x33, 0x44, 0x55, 0x08, 0x00, 0x45, 0x00,
   0x00, 0x2C, 0x00, 0x01, 0x00, 0x00, 0x40, 0x06, 0xF6, 0xA9, 0xC0, 0xA8, 0x01, 0x0A, 0xC0, 0xA8,
   0x01, 0xC7, 0x07, 0x5B, 0xC0, 0x01, 0xAA, 0xBB, 0xCC, 0xDE, 0x00, 0x00, 0x00, 0x12, 0x50, 0x18,
   0x72, 0x10, 0x5A, 0x8B, 0x00, 0x00, 0x20, 0x02, 0x00, 0x00]

def F7 : List Byte :=
  [0x02, 0x03, 0x04, 0x05, 0x06, 0x07, 0x00, 0x11, 0x22, 0x33, 0x44, 0x55, 0x08, 0x00, 0x45, 0x00,
   0x00, 0x31, 0x00, 0x02, 0x00, 0x00, 0x40, 0x06, 0xF6, 0xA3, 0xC0, 0xA8, 0x01, 0x0A, 0xC0, 0xA8,
   0x01, 0xC7, 0x07, 0x5B, 0xC0, 0x01, 0xAA, 0xBB, 0xCC, 0xE2, 0x00, 0x00, 0x00, 0x12, 0x50, 0x18,
   0x72, 0x10, 0x1D, 0xE2, 0x00, 0x00, 0x30, 0x07, 0x00, 0x03, 0x61, 0x2F, 0x62, 0x68, 0x69]

def F8 : List Byte :=
  [0x02, 0x03, 0x04, 0x05, 0x06, 0x07, 0x00, 0x11, 0x22, 0x33, 0x44, 0x55, 0x08, 0x00, 0x45, 0x00,
   0x00, 0x2D, 0x00, 0x03, 0x00, 0x00, 0x40, 0x06, 0xF6, 0xA6, 0xC0, 0xA8, 0x01, 0x0A, 0xC0, 0xA8,
   0x01, 0xC7, 0x07, 0x5B, 0xC0, 0x01, 0xAA, 0xBB, 0xCC, 0xDE, 0x00, 0x00, 0x00, 0x12, 0x50, 0x18,
   0x72, 0x10, 0xEA, 0x7C, 0x00, 0x00, 0x90, 0x03, 0x00, 0x0C, 0x00]

def F9 : List Byte :=
  [0x02, 0x03, 0x04, 0x05, 0x06, 0x07, 0x00, 0x11, 0x22, 0x33, 0x44, 0x55, 0x08, 0x00, 0x45, 0x00,
   0x00, 0x28, 0x00, 0x05, 0x00, 0x00, 0x40, 0x06, 0xF6, 0xA9, 0xC0, 0xA8, 0x01, 0x0A, 0xC0, 0xA8,
   0x01, 0xC7, 0x07, 0x5B, 0xC0, 0x01, 0xAA, 0xBB, 0xCC, 0xDE, 0x00, 0x00, 0x00, 0x12, 0x50, 0x11,
   0x72, 0x10, 0x7A, 0x98, 0x00, 0x00]

def F10 : List Byte :=
  [0x02, 0x03, 0x04, 0x05, 0x06, 0x07, 0x00, 0x11, 0x22, 0x33, 0x44, 0x55, 0x08, 0x00, 0x45, 0x00,
   0x00, 0x28, 0x00, 0x06, 0x00, 0x00, 0x40, 0x06, 0xF6, 0xA8, 0xC0, 0xA8, 0x01, 0x0A, 0xC0, 0xA8,
   0x01, 0xC7, 0x07, 0x5B, 0xC0, 0x01, 0xAA, 0xBB, 0xCC, 0xDE, 0x00, 0x00, 0x00, 0x12, 0x50, 0x14,
   0x72, 0x10, 0x7A, 0x95, 0x00, 0x00]

def F12 : List Byte :=
  [0x02, 0x03, 0x04, 0x05, 0x06, 0x07, 0x00, 0x11, 0x22, 0x33, 0x44, 0x55, 0x08, 0x00, 0x45, 0x00,
   0x00, 0x2C, 0x00, 0x04, 0x00, 0x00, 0x40, 0x06, 0xF6, 0xA6, 0xC0, 0xA8, 0x01, 0x0A, 0xC0, 0xA8,
   0x01, 0xC7, 0x07, 0x5B, 0xC0, 0x01, 0xAA, 0xBB, 0xCC, 0xDE, 0x00, 0x00, 0x00, 0x12, 0x50, 0x18,
   0x72, 0x10, 0xCA, 0x7E, 0x00, 0x00, 0xB0, 0x02, 0x00, 0x0C]

def F13 : List Byte :=
  [0x02, 0x03, 0x04, 0x05, 0x06, 0x07, 0x00, 0x11, 0x22, 0x33, 0x44, 0x55, 0x08, 0x00, 0x46, 0x00,
   0x00, 0x23, 0x12, 0x35, 0x00, 0x00, 0x40, 0x01, 0xE1, 0x82, 0xC0, 0xA8, 0x01, 0x0A, 0xC0, 0xA8,
   0x01, 0xC7, 0x01, 0x01, 0x01, 0x00, 0x08, 0x00, 0x05, 0x7B, 0x00, 0x02, 0x00, 0x09, 0x78, 0x79,
   0x7A]

def X1 : List Byte :=
  [0x00, 0x11, 0x22, 0x33, 0x44, 0x55, 0x02, 0x03, 0x04, 0x05, 0x06, 0x07, 0x08, 0x06, 0x00, 0x01,
   0x08, 0x00, 0x06, 0x04, 0x00, 0x02, 0x02, 0x03, 0x04, 0x05, 0x06, 0x07, 0xC0, 0xA8, 0x01, 0xC7,
   0x00, 0x11, 0x22, 0x33, 0x44, 0x55, 0xC0, 0xA8, 0x01, 0x0A]

def X2 : List Byte :=
  [0xFF, 0xFF, 0xFF, 0xFF, 0xFF, 0xFF, 0x02, 0x03, 0x04, 0x05, 0x06, 0x07, 0x08, 0x06, 0x00, 0x01,
   0x08, 0x00, 0x06, 0x04, 0x00, 0x01, 0x02, 0x03, 0x04, 0x05, 0x06, 0x07, 0xC0, 0xA8, 0x01, 0xC7,
   0x00, 0x00, 0x00, 0x00, 0x00, 0x00, 0xC0, 0xA8, 0x01, 0x0A]

def X3 : List Byte :=
  [0x00, 0x11, 0x22, 0x33, 0x44, 0x55, 0x02, 0x03, 0x04, 0x05, 0x06, 0x07, 0x08, 0x00, 0x45, 0x00,
   0x00, 0x24, 0x12, 0x34, 0x00, 0x00, 0x40, 0x01, 0xE4, 0x83, 0xC0, 0xA8, 0x01, 0xC7, 0xC0, 0xA8,
   0x01, 0x0A, 0x00, 0x00, 0x6E, 0x62, 0x00, 0x01, 0x00, 0x07, 0x61, 0x62, 0x63, 0x64, 0x65, 0x66,
   0x67, 0x68]

def X4 : List Byte :=
  [0x00, 0x11, 0x22, 0x33, 0x44, 0x55, 0x02, 0x03, 0x04, 0x05, 0x06, 0x07, 0x08, 0x00, 0x45, 0x00,
   0x00, 0x25, 0x12, 0x34, 0x00, 0x00, 0x40, 0x11, 0xE4, 0x72, 0xC0, 0xA8, 0x01, 0xC7, 0xC0, 0xA8,
   0x01, 0x0A, 0x04, 0x00, 0x30, 0x39, 0x00, 0x11, 0xC2, 0xCB, 0x52, 0x65, 0x63, 0x65, 0x69, 0x76,
   0x65, 0x64, 0x00]

def X5 : List Byte :=
  [0x00, 0x11, 0x22, 0x33, 0x44, 0x55, 0x02, 0x03, 0x04, 0x05, 0x06, 0x07, 0x08, 0x00, 0x45, 0x00,
   0x00, 0x2C, 0x00, 0x01, 0x00, 0x00, 0x40, 0x06, 0xF6, 0xA9, 0xC0, 0xA8, 0x01, 0xC7, 0xC0, 0xA8,
   0x01, 0x0A, 0xC0, 0x01, 0x07, 0x5B, 0x00, 0x00, 0x00, 0x00, 0x00, 0x00, 0x00, 0x00, 0x60, 0x02,
   0x05, 0x00, 0x48, 0x98, 0x00, 0x00, 0x02, 0x04, 0x04, 0xC4]

def X6 : List Byte :=
  [0x00, 0x11, 0x22, 0x33, 0x44, 0x55, 0x02, 0x03, 0x04, 0x05, 0x06, 0x07, 0x08, 0x00, 0x45, 0x00,
   0x00, 0x28, 0x00, 0x01, 0x00, 0x00, 0x40, 0x06, 0xF6, 0xAD, 0xC0, 0xA8, 0x01, 0xC7, 0xC0, 0xA8,
   0x01, 0x0A, 0xC0, 0x01, 0x07, 0x5B, 0x00, 0x00, 0x00, 0x01, 0xAA, 0xBB, 0xCC, 0xDD, 0x50, 0x10,
   0x05, 0x00, 0xE7, 0xBB, 0x00, 0x00]

def X7 : List Byte :=
  [0x00, 0x11, 0x22, 0x33, 0x44, 0x55, 0x02, 0x03, 0x04, 0x05, 0x06, 0x07, 0x08, 0x00, 0x45, 0x00,
   0x00, 0x39, 0x00, 0x01, 0x00, 0x00, 0x40, 0x06, 0xF6, 0x9C, 0xC0, 0xA8, 0x01, 0xC7, 0xC0, 0xA8,
   0x01, 0x0A, 0xC0, 0x01, 0x07, 0x5B, 0x00, 0x00, 0x00, 0x01, 0xAA, 0xBB, 0xCC, 0xDD, 0x50, 0x18,
   0x05, 0x00, 0x6D, 0x46, 0x00, 0x00, 0x10, 0x0F, 0x00, 0x04, 0x4D, 0x51, 0x54, 0x54, 0x04, 0x02,
   0x00, 0x3C, 0x00, 0x03, 0x61, 0x62, 0x63]

def X13 : List Byte :=
  [0x00, 0x11, 0x22, 0x33, 0x44, 0x55, 0x02, 0x03, 0x04, 0x05, 0x06, 0x07, 0x08, 0x00, 0x46, 0x00,
   0x00, 0x23, 0x12, 0x35, 0x00, 0x00, 0x40, 0x01, 0xE1, 0x82, 0xC0, 0xA8, 0x01, 0xC7, 0xC0, 0xA8,
   0x01, 0x0A, 0x01, 0x01, 0x01, 0x00, 0x00, 0x00, 0x0D, 0x7B, 0x00, 0x02, 0x00, 0x09, 0x78, 0x79,
   0x7A]

/-! ### Decoding (30_encoding.md R102, R105) -/

theorem test_decode_rd : decode [0x01, 0x23] = .command (.rd 0x23) := by decide

theorem test_decode_wr : decode [0x02, 0x07, 0x00, 0x00, 0x00, 0x01, 0xFF, 0xFE]
    = .command (.wr 0x07 0x00000001FFFE) := by decide

theorem test_decode_ipvalid : decode [0x03, 0x01] = .command (.ipvalid 0x01) := by decide

theorem test_decode_ctxLoad : decode [0x04] = .command .ctxLoad := by decide

theorem test_decode_rxLoad : decode [0x05, 0x00, 0x02, 0xAA, 0xBB] = .command (.rxLoad [0xAA, 0xBB]) := by decide

theorem test_decode_rxOvf : decode [0x06] = .command .rxOvf := by decide

theorem test_decode_pbRd : decode [0x07, 0x05, 0xF1] = .command (.pbRd 1521) := by decide

theorem test_decode_pbWr : decode [0x08, 0x00, 0x18, 0xB8] = .command (.pbWr 24 0xB8) := by decide

theorem test_decode_psbLoad : decode [0x09, 0x00, 0x01, 0x52] = .command (.psbLoad [0x52]) := by decide

theorem test_decode_psbRd : decode [0x0A, 0x00, 0x01] = .command (.psbRd 1) := by decide

theorem test_decode_acc : decode [0x10, 0x05, 0xF0, 0x00, 0x03] = .command (.acc 1520 3) := by decide

theorem test_decode_fold : decode [0x11] = .command .fold := by decide

theorem test_decode_ckIp : decode [0x12] = .command .ckIp := by decide

theorem test_decode_ckIcmp : decode [0x13] = .command .ckIcmp := by decide

theorem test_decode_ckUdp : decode [0x14] = .command .ckUdp := by decide

theorem test_decode_ckTcp : decode [0x15] = .command .ckTcp := by decide

theorem test_decode_isIp : decode [0x20] = .command .isIp := by decide

theorem test_decode_isIpUnicast : decode [0x21] = .command .isIpUnicast := by decide

theorem test_decode_isArpRequest : decode [0x22] = .command .isArpRequest := by decide

theorem test_decode_isArpReply : decode [0x23] = .command .isArpReply := by decide

theorem test_decode_isPingRequest : decode [0x24] = .command .isPingRequest := by decide

theorem test_decode_isUdp : decode [0x25] = .command .isUdp := by decide

theorem test_decode_isTcp : decode [0x26] = .command .isTcp := by decide

theorem test_decode_isTcpAck : decode [0x27] = .command .isTcpAck := by decide

theorem test_decode_isTcpFinAck : decode [0x28] = .command .isTcpFinAck := by decide

theorem test_decode_isTcpResetAck : decode [0x29] = .command .isTcpResetAck := by decide

theorem test_decode_isMqttConnectAck : decode [0x2A] = .command .isMqttConnectAck := by decide

theorem test_decode_isMqttSubAck : decode [0x2B] = .command .isMqttSubAck := by decide

theorem test_decode_isMqttUnSubAck : decode [0x2C] = .command .isMqttUnSubAck := by decide

theorem test_decode_isMqttPublish : decode [0x2D] = .command .isMqttPublish := by decide

theorem test_decode_buildArpReply : decode [0x30] = .command .buildArpReply := by decide

theorem test_decode_buildArpRequest : decode [0x31, 0xC0, 0xA8, 0x01, 0x0A] = .command (.buildArpRequest 0xC0A8010A) := by decide

theorem test_decode_buildIcmpEchoReply : decode [0x32] = .command .buildIcmpEchoReply := by decide

theorem test_decode_buildUdpReply : decode [0x33] = .command .buildUdpReply := by decide

theorem test_decode_buildTcpSegment : decode [0x34, 0x00, 0x18] = .command (.buildTcpSegment 0x0018) := by decide

theorem test_decode_mqConnect : decode [0x40] = .command .mqConnect := by decide

theorem test_decode_mqSubscribe : decode [0x41, 0x00, 0x03, 0x61, 0x2F, 0x62] = .command (.mqSubscribe [0x61, 0x2F, 0x62]) := by decide

theorem test_decode_mqUnsubscribe : decode [0x42, 0x00, 0x03, 0x61, 0x2F, 0x62] = .command (.mqUnsubscribe [0x61, 0x2F, 0x62]) := by decide

theorem test_decode_mqPublish : decode [0x43, 0x00, 0x03, 0x61, 0x2F, 0x62, 0x00, 0x02, 0x68, 0x69]
    = .command (.mqPublish [0x61, 0x2F, 0x62] [0x68, 0x69]) := by decide

theorem test_decode_mqDisconnect : decode [0x44] = .command .mqDisconnect := by decide

theorem test_decode_fsmConnect : decode [0x50] = .command .fsmConnect := by decide

theorem test_decode_fsmStep : decode [0x51] = .command .fsmStep := by decide

/-- S12, S11, S20, S22: what the decoder rejects, and as what. -/
theorem test_decode_rejects :
    decode [0x05, 0x00] = .illegalOpcode ∧ decode [0x05, 0x00, 0x03, 0xAA, 0xBB] = .badOperand
      ∧ decode [0x00] = .illegalOpcode ∧ decode [0x11, 0x00] = .badOperand := by decide

/-- Every row of the opcode table that holds operands decodes from its own bits with operands of zero. -/
theorem test_decodeTableWord :
    decodeTableWord 24 0xF10507 = some (.pbRd 1521) ∧ decodeTableWord 8 0x10 = some (.acc 0 0)
      ∧ decodeTableWord 8 0x43 = some (.mqPublish [] []) ∧ decodeTableWord 8 0x0B = none := by decide

/-! ### Well-formedness (30_encoding.md R102): a length that does not fit 16 bits -/

theorem test_wf_rxLoad : (Instr.rxLoad (List.replicate 65536 0)).wf = false := by
  simp only [Instr.wf, fitsLength, List.length_replicate]; decide

theorem test_wf_psbLoad : (Instr.psbLoad (List.replicate 65536 0)).wf = false := by
  simp only [Instr.wf, fitsLength, List.length_replicate]; decide

theorem test_wf_mqSubscribe : (Instr.mqSubscribe (List.replicate 65536 0)).wf = false := by
  simp only [Instr.wf, fitsLength, List.length_replicate]; decide

theorem test_wf_mqUnsubscribe : (Instr.mqUnsubscribe (List.replicate 65536 0)).wf = false := by
  simp only [Instr.wf, fitsLength, List.length_replicate]; decide

theorem test_wf_mqPublish_topic : (Instr.mqPublish (List.replicate 65536 0) []).wf = false := by
  simp only [Instr.wf, fitsLength, List.length_replicate]; decide

theorem test_wf_mqPublish_data : (Instr.mqPublish [] (List.replicate 65536 0)).wf = false := by
  simp only [Instr.wf, fitsLength, List.length_replicate]; decide

/-! ### System commands -/

/-- S1. -/
theorem test_rd_localIp :
    (after (.rd 0x01) T0).result = 0x0000C0A801C7 := by decide

/-- S25: the value from before the command's own `ERR` write. -/
theorem test_rd_err :
    (after (.rd 0x23) (T0.raise .bounds)).result = 3 ∧ (after (.rd 0x23) (T0.raise .bounds)).err = .ok
      ∧ (after (.rd 0x23) (T0.raise .bounds)).flags.flt = true := by decide

/-- S3. -/
theorem test_wr_ipId :
    (after (.wr 0x07 0x00000001FFFE) T0).ipId = 0xFFFE ∧ (after (.wr 0x06 3) T0).dhcpEn = 1 := by decide

/-- S24. -/
theorem test_wr_fsmState :
    (after (.wr 0x24 6) T0).err = .fault .badOperand ∧ (after (.wr 0x24 6) T0).fsm = .idle := by decide

/-- S5, S6. -/
theorem test_ipvalid :
    (after (.ipvalid 0x03) T0).flags.matched = false ∧ (after (.ipvalid 0x01) T0).flags.matched = true := by decide

/-- S7. -/
theorem test_ipvalid_localMac :
    (after (.ipvalid 0x00) T0).err = .fault .badOperand := by decide

/-- S8. -/
theorem test_ctxLoad :
    (after .ctxLoad { T0 with ctxDstMac := 0, ctxDstPort := 0 }).ctxDstMac = 0x001122334455
      ∧ (after .ctxLoad { T0 with ctxDstMac := 0, ctxDstPort := 0 }).ctxDstPort = 0x075B
      ∧ (after .ctxLoad { T0 with ctxDstMac := 0, ctxDstPort := 0 }).ctxSrcPort = 0xC001 := by decide

/-- P1 step 2. -/
theorem test_rxLoad :
    (after (.rxLoad [0x00, 0x01, 0xF2, 0x03]) (holding F1)).pbBytes 0 6 = [0x00, 0x01, 0xF2, 0x03, 0xFF, 0xFF]
      ∧ (after (.rxLoad [0x00, 0x01, 0xF2, 0x03]) (holding F1)).rxLen = 4 := by decide

/-- S13. -/
theorem test_rxOvf :
    (after .rxOvf T0).flags.ovf = true ∧ (after .rxOvf (after .rxOvf T0)).flags.ovf = false := by decide

/-- S14, S15. -/
theorem test_pbRd :
    (after (.pbRd 21) (holding F1)).result = 1 ∧ (after (.pbRd 1522) T0).err = .fault .bounds := by decide

/-- S16. -/
theorem test_pbWr :
    (after (.pbWr 24 0xB8) T0).pbAt 24 = 0xB8 := by decide

/-- S17. -/
theorem test_psbLoad :
    (after (.psbLoad [0x52, 0x65, 0x63]) T0).psbBytes 0 3 = [0x52, 0x65, 0x63]
      ∧ (after (.psbLoad [0x52, 0x65, 0x63]) T0).psbLen = 3 := by decide

/-- S19. -/
theorem test_psbRd :
    (after (.psbRd 1) (after .mqConnect T0)).result = 0x0F ∧ (after (.psbRd 1468) T0).err = .fault .bounds := by decide

/-! ### Checksum engine -/

/-- V1, V3: an even and an odd count. -/
theorem test_acc :
    (after (.acc 0 8) (holding [0x00, 0x01, 0xF2, 0x03, 0xF4, 0xF5, 0xF6, 0xF7])).sum = 0x0002DDF0
      ∧ (after (.acc 0 3) (holding [0x01, 0x02, 0x03])).sum = 0x00000402 := by decide

/-- V6, V13. -/
theorem test_acc_wraps :
    (after (.acc 0 2) { holding [0xFF, 0xFF] with sum := 0xFFFFFFFF }).sum = 0x0000FFFE
      ∧ (after (.acc 1520 3) T0).err = .fault .bounds := by decide

/-- V2, V9. -/
theorem test_fold :
    (after .fold { T0 with sum := 0x0002DDF0 }).result = 0x220D
      ∧ (after .fold { T0 with sum := 0x0001FFFF }).result = 0xFFFE := by decide

/-- V7, V10. -/
theorem test_fold_corners :
    (after .fold T0).result = 0xFFFF ∧ (after .fold { T0 with sum := 0xFFFFFFFF }).result = 0x0000 := by decide

/-- V15. -/
theorem test_ckIp :
    (after .ckIp (holding (List.replicate 14 0 ++ [0x45, 0x00, 0x00, 0x73, 0x00, 0x00, 0x40, 0x00, 0x40, 0x11, 0x77,
      0x77, 0xC0, 0xA8, 0x00, 0x01, 0xC0, 0xA8, 0x00, 0xC7]))).result = 0xB861 := by decide

/-- V16, V19b. -/
theorem test_ckIcmp :
    (after .ckIcmp (holding F3)).result = 0x6662 ∧ (after .ckIcmp (holding F3)).pbBytes 0 50 = F3
      ∧ (after .ckIcmp (after (.pbWr 17 0x16) (holding F3))).err = .fault .badLength := by decide

/-- V17. -/
theorem test_ckUdp :
    (after .ckUdp (holding X4)).result = 0xC2CB ∧ (after .ckUdp (holding X4)).pbBytes 0 51 = X4 := by decide

/-- V18. -/
theorem test_ckTcp :
    (after .ckTcp (holding X5)).result = 0x4898 ∧ (after .ckTcp (holding X5)).pbBytes 0 58 = X5 := by decide

/-! ### Classifier: which frames match (95_test_vectors.md section 2.1) -/

/-- F3, F1. -/
theorem test_isIp :
    (after .isIp (holding F3)).flags.matched = true
      ∧ (after .isIp (holding F1)).flags.matched = false := by decide

/-- F3, F1, V23. -/
theorem test_isIpUnicast :
    (after .isIpUnicast (holding F3)).flags.matched = true
      ∧ (after .isIpUnicast (holding F1)).flags.matched = false
      ∧ (after .isIpUnicast (after (.pbWr 25 0x84) (after (.pbWr 33 0xC6) (holding F3)))).flags.matched = false := by decide

/-- F1, F2. -/
theorem test_isArpRequest :
    (after .isArpRequest (holding F1)).flags.matched = true
      ∧ (after .isArpRequest (holding F2)).flags.matched = false := by decide

/-- F2, F1. -/
theorem test_isArpReply :
    (after .isArpReply (holding F2)).flags.matched = true
      ∧ (after .isArpReply (holding F1)).flags.matched = false := by decide

/-- F13, F4. -/
theorem test_isPingRequest :
    (after .isPingRequest (holding F13)).flags.matched = true
      ∧ (after .isPingRequest (holding F4)).flags.matched = false := by decide

/-- F4, F3, and F4 with the last byte changed. -/
theorem test_isUdp :
    (after .isUdp (holding F4)).flags.matched = true
      ∧ (after .isUdp (holding F3)).flags.matched = false
      ∧ (after .isUdp (after (.pbWr 43 0x6F) (holding F4))).flags.matched = false := by decide

/-- F5, F4. -/
theorem test_isTcp :
    (after .isTcp (holding F5)).flags.matched = true
      ∧ (after .isTcp (holding F4)).flags.matched = false := by decide

/-- F5, F9, V28. -/
theorem test_isTcpAck :
    (after .isTcpAck (holding F5)).flags.matched = true
      ∧ (after .isTcpAck (holding F9)).flags.matched = false
      ∧ (after .isTcpAck (after (.pbWr 47 0x52) (holding F5))).flags.matched = false := by decide

/-- F9, F10. -/
theorem test_isTcpFinAck :
    (after .isTcpFinAck (holding F9)).flags.matched = true
      ∧ (after .isTcpFinAck (holding F10)).flags.matched = false := by decide

/-- F10, F9. -/
theorem test_isTcpResetAck :
    (after .isTcpResetAck (holding F10)).flags.matched = true
      ∧ (after .isTcpResetAck (holding F9)).flags.matched = false := by decide

/-- F6, F8. -/
theorem test_isMqttConnectAck :
    (after .isMqttConnectAck (holding F6)).flags.matched = true
      ∧ (after .isMqttConnectAck (holding F8)).flags.matched = false := by decide

/-- F8 with its length, F6. -/
theorem test_isMqttSubAck :
    (after .isMqttSubAck (holding F8)).flags.matched = true
      ∧ (after .isMqttSubAck (holding F6)).flags.matched = false
      ∧ (after .isMqttSubAck (holding F8)).mqLen = 3 ∧ (after .isMqttSubAck (holding F6)).mqLen = 0 := by decide

/-- F12 with its length, F8. -/
theorem test_isMqttUnSubAck :
    (after .isMqttUnSubAck (holding F12)).flags.matched = true
      ∧ (after .isMqttUnSubAck (holding F8)).flags.matched = false
      ∧ (after .isMqttUnSubAck (holding F12)).mqLen = 2 := by decide

/-- F7 with its length, F6. -/
theorem test_isMqttPublish :
    (after .isMqttPublish (holding F7)).flags.matched = true
      ∧ (after .isMqttPublish (holding F6)).flags.matched = false
      ∧ (after .isMqttPublish (holding F7)).mqLen = 7 ∧ (after .isMqttPublish (holding F7)).result = 7 := by decide

/-! ### Builders: the X frames (95_test_vectors.md section 2.2) -/

/-- X1. -/
theorem test_buildArpReply :
    (after .buildArpReply (holding F1)).txLog = [⟨X1, true⟩] := by decide

/-- V40: the driver aborts. -/
theorem test_buildArpReply_abort :
    (after .buildArpReply { holding F1 with txAnswers := [false] }).err = .txAbort
      ∧ (after .buildArpReply { holding F1 with txAnswers := [false] }).pbBytes 0 42 = X1
      ∧ (after .buildArpReply { holding F1 with txAnswers := [false] }).flags.flt = false := by decide

/-- X2. -/
theorem test_buildArpRequest :
    (after (.buildArpRequest 0xC0A8010A) T0).txLog = [⟨X2, true⟩] := by decide

/-- X3. -/
theorem test_buildIcmpEchoReply :
    (after .buildIcmpEchoReply (holding F3)).txLog = [⟨X3, true⟩] := by decide

/-- X13: a header with options, an odd length. -/
theorem test_buildIcmpEchoReply_options :
    (after .buildIcmpEchoReply (holding F13)).txLog = [⟨X13, true⟩] := by decide

/-- X4. -/
theorem test_buildUdpReply :
    (after .buildUdpReply (after (.psbLoad [0x52, 0x65, 0x63, 0x65, 0x69, 0x76, 0x65, 0x64, 0x00]) (holding F4))).txLog = [⟨X4, true⟩] := by decide

/-- X5: the numbers are zero, the option is there. -/
theorem test_buildTcpSegment_syn :
    (after (.buildTcpSegment 0x0002) T0).txLog = [⟨X5, true⟩] := by decide

/-- X7: a payload of odd length. -/
theorem test_buildTcpSegment_push :
    (after (.buildTcpSegment 0x0018) (after .mqConnect T0)).txLog = [⟨X7, true⟩] := by decide

/-! ### MQTT payloads (95_test_vectors.md section 2.3) -/

/-- M1. -/
theorem test_mqConnect :
    (after .mqConnect T0).psbBytes 0 17 =
      [0x10, 0x0F, 0x00, 0x04, 0x4D, 0x51, 0x54, 0x54, 0x04, 0x02, 0x00, 0x3C, 0x00, 0x03, 0x61, 0x62, 0x63]
      ∧ (after .mqConnect T0).psbLen = 17 ∧ (after .mqConnect T0).result = 17 := by decide

/-- M2. -/
theorem test_mqSubscribe :
    (after (.mqSubscribe [0x61, 0x2F, 0x62]) T0).psbBytes 0 10 =
      [0x82, 0x08, 0x00, 0x0C, 0x00, 0x03, 0x61, 0x2F, 0x62, 0x00]
      ∧ (after (.mqSubscribe [0x61, 0x2F, 0x62]) T0).psbLen = 10 ∧ (after (.mqSubscribe [0x61, 0x2F, 0x62]) T0).result = 10 := by decide

/-- M9. -/
theorem test_mqSubscribe_long :
    (after (.mqSubscribe (List.replicate 123 0x78)) T0).err = .fault .badOperand
      ∧ (after (.mqSubscribe (List.replicate 122 0x78)) T0).err = .ok := by 
  constructor <;> simp [after, exec, execMqSubscribe, State.constructWithin, State.construct]

/-- M3. -/
theorem test_mqUnsubscribe :
    (after (.mqUnsubscribe [0x61, 0x2F, 0x62]) T0).psbBytes 0 10 =
      [0xA2, 0x08, 0x00, 0x0C, 0x00, 0x03, 0x61, 0x2F, 0x62, 0x00]
      ∧ (after (.mqUnsubscribe [0x61, 0x2F, 0x62]) T0).psbLen = 10 ∧ (after (.mqUnsubscribe [0x61, 0x2F, 0x62]) T0).result = 10 := by decide

/-- M4. -/
theorem test_mqPublish :
    (after (.mqPublish [0x61, 0x2F, 0x62] [0x68, 0x69]) T0).psbBytes 0 9 =
      [0x30, 0x07, 0x00, 0x03, 0x61, 0x2F, 0x62, 0x68, 0x69]
      ∧ (after (.mqPublish [0x61, 0x2F, 0x62] [0x68, 0x69]) T0).psbLen = 9 ∧ (after (.mqPublish [0x61, 0x2F, 0x62] [0x68, 0x69]) T0).result = 9 := by decide

/-- M5. -/
theorem test_mqDisconnect :
    (after .mqDisconnect T0).psbBytes 0 2 =
      [0xE0, 0x00]
      ∧ (after .mqDisconnect T0).psbLen = 2 ∧ (after .mqDisconnect T0).result = 2 := by decide

/-! ### State machine -/

/-- V51, V52. -/
theorem test_fsmConnect :
    (after .fsmConnect T0).fsm = .sendArpRequest ∧ (after .fsmConnect T0).txLog = []
      ∧ (after .fsmConnect { T0 with fsm := .sendTcpAck }).flags.matched = false := by decide

/-- V55. -/
theorem test_fsmStep_learns :
    (after .fsmStep { holding F2 with fsm := .waitArpResponse, brokerMac := 0 }).brokerMac = 0x001122334455
      ∧ (after .fsmStep { holding F2 with fsm := .waitArpResponse, brokerMac := 0 }).fsm = .sendTcpSyn := by decide

/-- V57, V56. -/
theorem test_fsmStep_captures :
    (after .fsmStep { holding F5 with fsm := .waitTcpSynAck, tcpAck := 0 }).tcpAck = 0xAABBCCDD
      ∧ (after .fsmStep { holding F5 with fsm := .waitTcpSynAck, tcpSeq := 0 }).tcpSeq = 0x00000001
      ∧ (after .fsmStep { holding F9 with fsm := .waitTcpSynAck }).fsm = .waitTcpSynAck := by decide

/-! ### The step -/

/-- P7 step 1: a reserved opcode, its response record, nothing else. -/
theorem test_step_reserved :
    step (asked [0x00]) = .next ((T0.raise .illegalOpcode).respond) := by rfl

/-- P7 step 7: `RD FLAGS` after a fault. -/
theorem test_response_bytes :
    ((after (.rd 0x22) (T0.raise .bounds)).respond.responses.map Response.bytes)
      = [[0x00, 0x08, 0x00, 0x00, 0x00, 0x00, 0x00, 0x08]] := by decide

/-- An opcode-table word as the first command after reset. -/
theorem test_withFetchWord : step (State.reset.withFetchWord 8 0x43) = .next (after (.mqPublish [] []) State.reset).respond := by
  rfl

/-! ### Witnesses: for each statement with hypotheses, values that meet them -/

/-- A state whose `PB` tells a header length and a total length. -/
def headed (b14 b16 b17 : Byte) : State := { T0 with pb := [(14, b14), (16, b16), (17, b17)] }

theorem witness_StepRunsTheDecodedCommand :
    (asked [0x11]).inbox = .command [0x11] :: [] ∧ decode [0x11] = .command .fold
      ∧ exec .fold { asked [0x11] with inbox := [] } = .next (after .fold { asked [0x11] with inbox := [] }) :=
  ⟨rfl, rfl, rfl⟩

theorem witness_DecoderFaultsArePrecise :
    (asked []).inbox = .command [] :: [] ∧ decode [] = .illegalOpcode
      ∧ (asked [0x11, 0x00]).inbox = .command [0x11, 0x00] :: [] ∧ decode [0x11, 0x00] = .badOperand := by decide

theorem witness_WaitingCoreHoldsItsState : T0.inbox = [] := rfl

theorem witness_ResetInputResetsTheCore :
    ({ T0 with inbox := [.reset, .command [0x11]] } : State).inbox = .reset :: [.command [0x11]] := rfl

theorem witness_EveryStepKeepsTheInvariant :
    ({ holding F1 with inbox := [.command [0x30]] } : State).Inv
      ∧ step { holding F1 with inbox := [.command [0x30]] } = .next (after .buildArpReply (holding F1)).respond :=
  ⟨⟨⟨by decide, by decide, by decide, by decide, by decide, by decide⟩,
    ⟨fun f h => absurd (show Status.ok = .fault f from h) nofun,
      fun h => absurd (show Status.ok = .txAbort from h) nofun⟩,
    fun r h => absurd (show r ∈ ([] : List TxRecord) from h) List.not_mem_nil⟩, by rfl⟩

theorem witness_CommandsCompleteOrFaultPrecisely :
    exec .fold T0 = .next (after .fold T0) ∧ exec (.pbRd 1522) T0 = .next (T0.raise .bounds) := ⟨rfl, rfl⟩

theorem witness_ConfigurationChangesOnlyBySetterOrHandshake_wr :
    exec (.wr 0x09 5) T0 = .next (after (.wr 0x09 5) T0) ∧ Reg.tcpAck.number.toNat ≤ 0x09
      ∧ (after (.wr 0x09 5) T0).readReg .tcpAck ≠ T0.readReg .tcpAck
      ∧ (after (.wr 0x00 5) T0).readReg .localMac ≠ T0.readReg .localMac := ⟨rfl, by decide, by decide, by decide⟩

theorem witness_ConfigurationChangesOnlyBySetterOrHandshake_fsm :
    (after .fsmStep { holding F2 with fsm := .waitArpResponse, brokerMac := 0 }).readReg .brokerMac ≠ 0
      ∧ (after .fsmStep { holding F5 with fsm := .waitTcpSynAck, tcpAck := 0 }).readReg .tcpAck ≠ 0
      ∧ (after .fsmStep { holding F5 with fsm := .waitTcpSynAck, tcpSeq := 0 }).readReg .tcpSeq ≠ 0 := by decide

theorem witness_FsmMovesOneRowForward :
    exec .fsmConnect T0 = .next (after .fsmConnect T0) ∧ (after .fsmConnect T0).fsm ≠ T0.fsm
      ∧ (after .fsmStep { T0 with fsm := .sendTcpAck }).fsm ≠ .sendTcpAck := ⟨rfl, by decide, by decide⟩

theorem witness_SumIsPrivateToTheEngineCommands :
    (∀ off cnt, Instr.ckIp ≠ .acc off cnt) ∧ Instr.ckIp ≠ .fold ∧ (∀ reg, Instr.ckIp ≠ .rd reg)
      ∧ (∀ reg val, Instr.ckIp ≠ .wr reg val) ∧ exec .ckIp T0 = .next (after .ckIp T0) :=
  ⟨nofun, nofun, nofun, nofun, rfl⟩

theorem witness_StoredOnlyRegistersSteerNothing :
    (∀ reg, Instr.fsmStep ≠ .rd reg) ∧ (∀ reg val, Instr.fsmStep ≠ .wr reg val)
      ∧ (∀ reg, Instr.fsmStep ≠ .ipvalid reg) ∧ (∀ data, Instr.fsmStep ≠ .rxLoad data)
      ∧ exec .fsmStep T0 = .next (after .fsmStep T0) :=
  ⟨nofun, nofun, nofun, nofun, rfl⟩

theorem witness_DriverAnswerReachesOnlyTheStatus :
    exec .buildArpReply (holding F1) = .next (after .buildArpReply (holding F1))
      ∧ exec .buildArpReply { holding F1 with txAnswers := [false] }
        = .next (after .buildArpReply { holding F1 with txAnswers := [false] })
      ∧ (after .buildArpReply { holding F1 with txAnswers := [false] }).err
        ≠ (after .buildArpReply (holding F1)).err := ⟨rfl, rfl, by decide⟩

theorem witness_DecodeOfEncodeIsTheCommand :
    (Instr.mqPublish [0x61] [0x62]).wf = true ∧ (Instr.rxLoad (List.replicate 65535 0)).wf = true :=
  ⟨by decide, by simp only [Instr.wf, fitsLength, List.length_replicate]; decide⟩

theorem witness_EncodeOfDecodeIsTheBytes :
    decode [0x10, 0x05, 0xF0, 0x00, 0x03] = .command (.acc 1520 3) ∧ decode [0x43, 0, 0, 0, 0] = .command (.mqPublish [] []) := by
  decide

theorem witness_ReservedOpcodesFault :
    reservedOpcode 0x00 ∧ reservedOpcode 0x0B ∧ reservedOpcode 0x0F ∧ reservedOpcode 0x16 ∧ reservedOpcode 0x1F
      ∧ reservedOpcode 0x2E ∧ reservedOpcode 0x2F ∧ reservedOpcode 0x35 ∧ reservedOpcode 0x3F
      ∧ reservedOpcode 0x45 ∧ reservedOpcode 0x4F ∧ reservedOpcode 0x52 ∧ reservedOpcode 0xFF
      ∧ ¬ reservedOpcode 0x01 ∧ ¬ reservedOpcode 0x51
      ∧ (asked [0xFF, 0x01]).inbox = .command (0xFF :: [0x01]) :: [] := by
  unfold reservedOpcode
  refine ⟨?_, ?_, ?_, ?_, ?_, ?_, ?_, ?_, ?_, ?_, ?_, ?_, ?_, ?_, ?_, rfl⟩ <;> decide

theorem witness_LengthCheckOfFixedFormats :
    ((0x02, 8) : Byte × Nat) ∈ [((0x01 : Byte), 2), (0x02, 8)]
      ∧ decode (0x02 :: List.replicate 6 0) = .illegalOpcode ∧ decode (0x02 :: List.replicate 8 0) = .badOperand
      ∧ decode (0x02 :: List.replicate 7 0) = .command (.wr 0 0) ∧ decode [0x51, 0] = .badOperand := by decide

theorem witness_LengthCheckOfStringFormats :
    ([0xAA] : List Byte).length ≠ (0x00 : Byte).toNat * 256 + (0x00 : Byte).toNat
      ∧ ([0xAA] : List Byte).length = (0x00 : Byte).toNat * 256 + (0x01 : Byte).toNat
      ∧ ([0, 0, 0] : List Byte).length < 4
      ∧ 2 ≤ ([0xAA, 0xBB] : List Byte).length
      ∧ ([0xAA, 0xBB] : List Byte).length < (0x00 : Byte).toNat * 256 + (0x01 : Byte).toNat + 2
      ∧ ([] : List Byte).length = (0x00 : Byte).toNat * 256 + (0x00 : Byte).toNat
      ∧ ([] : List Byte).length ≠ (0x00 : Byte).toNat * 256 + (0x01 : Byte).toNat := by decide

theorem witness_BufferFieldsAreBigEndian : 6 ∈ [1, 2, 4, 6] ∧ 1516 + 6 ≤ 1522 := by decide

theorem witness_RdHandsBackTheRegister :
    ((0x27, T0.mqLen.toNat) : Byte × Nat) ∈ [((0x26 : Byte), T0.psbLen.toNat), (0x27, T0.mqLen.toNat)]
      ∧ reservedRegister 0x0A ∧ reservedRegister 0x0F ∧ reservedRegister 0x16 ∧ reservedRegister 0x1F
      ∧ reservedRegister 0x28 ∧ reservedRegister 0xFF := by
  unfold reservedRegister; decide

theorem witness_WrStoresTheTruncatedValue :
    Reg.sum.number.toNat ≤ 0x20 ∧ Reg.localMac.number.toNat ≤ 0x20 ∧ reservedRegister 0x28
      ∧ ((0x21 : Byte) ≤ 0x21 ∧ (0x21 : Byte) ≤ 0x27) ∧ ((0x21 : Byte) ≤ 0x27 ∧ (0x27 : Byte) ≤ 0x27) := by
  unfold reservedRegister; decide

theorem witness_IpvalidAnswersWhetherNonzero :
    ((0x13, T0.ctxDstIp) : Byte × BitVec 32) ∈ [((0x12 : Byte), T0.ctxSrcIp), (0x13, T0.ctxDstIp)]
      ∧ (0x00 : Byte) ∉ [(0x01 : Byte), 0x02, 0x03, 0x04, 0x12, 0x13]
      ∧ (0x14 : Byte) ∉ [(0x01 : Byte), 0x02, 0x03, 0x04, 0x12, 0x13] := by decide

theorem witness_RxLoadDeliversTheFrame :
    (List.replicate 1522 (0 : Byte)).length ≤ 1522 ∧ 1522 < (List.replicate 1523 (0 : Byte)).length :=
  ⟨Nat.le_of_eq List.length_replicate, Nat.lt_of_lt_of_eq (by decide) List.length_replicate.symm⟩

theorem witness_BufferBytesAreReadAndWritten :
    (1521#16).toNat < 1522 ∧ 1522 ≤ (1522#16).toNat ∧ (1467#16).toNat < 1468 ∧ 1468 ≤ (1468#16).toNat := by decide

theorem witness_PsbLoadStagesThePayload :
    (List.replicate 1468 (0 : Byte)).length ≤ 1468 ∧ 1468 < (List.replicate 1469 (0 : Byte)).length :=
  ⟨Nat.le_of_eq List.length_replicate, Nat.lt_of_lt_of_eq (by decide) List.length_replicate.symm⟩

theorem witness_AccAddsTheWordsOfTheRange :
    (1520#16).toNat + (2#16).toNat ≤ 1522 ∧ (1522#16).toNat + (0#16).toNat ≤ 1522
      ∧ 1522 < (1520#16).toNat + (3#16).toNat ∧ 1522 < (1523#16).toNat + (0#16).toNat := by decide

theorem witness_FoldHandsBackTheOnesComplement : T0.sum = 0 ∧ ({ T0 with sum := 1 } : State).sum ≠ 0 := by decide

/-- An odd region at the end of the buffer, and an even one. -/
theorem witness_InjectedChecksumFoldsToZero :
    1517 + 5 ≤ 1522 ∧ (1519 - 1517) % 2 = 0 ∧ 1519 + 2 ≤ 1517 + 5
      ∧ (7 : BitVec 32).toNat + exactWordSum
        (({ T0 with pb := Memory.setMany [] 1517 [1, 2, 3, 4, 5] }.memWrite 1519 2 0).memWrite 1519 2
          (fold (({ T0 with pb := Memory.setMany [] 1517 [1, 2, 3, 4, 5] }.memWrite 1519 2 0).acc 1517 5 7)).toNat).pbAt
        1517 5 < 2 ^ 32
      ∧ (0 : BitVec 32).toNat + exactWordSum
        (((holding F3).memWrite 24 2 0).memWrite 24 2
          (fold (((holding F3).memWrite 24 2 0).acc 14 20 0)).toNat).pbAt 14 20 < 2 ^ 32 := by decide

theorem witness_CkIpMakesTheHeaderValid :
    (after .ckIp (headed 0x40 0 0)).ihl = 0 ∧ (headed 0x41 0 0).ihl = 4 ∧ (headed 0x42 0 0).ihl ≤ 8
      ∧ ¬ (headed 0x43 0 0).ihl ≤ 8 ∧ 12 ≤ (after .ckIp (headed 0x43 0 0)).ihl := by decide

theorem witness_LayerFourChecksumsAreInjected :
    ((headed 0x45 0x00 0x18).ihl ≤ (headed 0x45 0x00 0x18).ipTotLen ∧ 4 ≤ (headed 0x45 0x00 0x18).l4Len
      ∧ 14 + (headed 0x45 0x00 0x18).ipTotLen ≤ 1522 ∧ 20 ≤ (headed 0x45 0x00 0x18).ihl)
    ∧ ((headed 0x45 0x00 0x1C).ihl ≤ (headed 0x45 0x00 0x1C).ipTotLen ∧ 8 ≤ (headed 0x45 0x00 0x1C).l4Len)
    ∧ ((headed 0x45 0x05 0xE4).ihl ≤ (headed 0x45 0x05 0xE4).ipTotLen ∧ 20 ≤ (headed 0x45 0x05 0xE4).l4Len
      ∧ 14 + (headed 0x45 0x05 0xE4).ipTotLen ≤ 1522) := by decide

theorem witness_InconsistentLengthsFault :
    (Instr.ckTcp, 20) ∈ [(Instr.ckIcmp, 4), (.ckUdp, 8), (.ckTcp, 20), (.buildIcmpEchoReply, 4)]
      ∧ (headed 0x45 0x00 0x13).ipTotLen < (headed 0x45 0x00 0x13).ihl
      ∧ (headed 0x45 0x05 0xE5).ihl ≤ (headed 0x45 0x05 0xE5).ipTotLen
      ∧ 1522 < 14 + (headed 0x45 0x05 0xE5).ipTotLen
      ∧ (headed 0x45 0x00 0x14).ihl ≤ (headed 0x45 0x00 0x14).ipTotLen
      ∧ 14 + (headed 0x45 0x00 0x14).ipTotLen ≤ 1522
      ∧ (headed 0x45 0x00 0x14).ipTotLen < (headed 0x45 0x00 0x14).ihl + 4 := by decide

theorem ckUdp_after (s : State) : exec .ckUdp s = .next (after .ckUdp s) := by
  unfold after
  generalize h : exec .ckUdp s = o
  cases o with
  | next t => rfl
  | fault r => exact nomatch r
  | refused r => unfold exec execCkUdp at h; exact nomatch h

theorem witness_InjectedUdpDatagramIsUdp :
    ipHeaderValid (holding F4) ∧ 20 ≤ (holding F4).ihl ∧ (holding F4).pbAt 23 = 17
      ∧ (holding F4).ihl + 8 ≤ (holding F4).ipTotLen ∧ 14 + (holding F4).ipTotLen ≤ 1522
      ∧ exec .ckUdp (holding F4) = .next (after .ckUdp (holding F4))
      ∧ ∃ u, exec .isUdp (after .ckUdp (holding F4)) = .next u :=
  ⟨⟨by decide, by decide, by decide⟩, by decide, by decide, by decide, by decide, ckUdp_after _, ⟨_, rfl⟩⟩

theorem witness_ClassifiersAreRepeatable :
    Instr.isMqttPublish ∈ [Instr.isMqttSubAck, .isMqttPublish]
      ∧ exec .isMqttPublish (holding F7) = .next (after .isMqttPublish (holding F7)) := ⟨by decide, rfl⟩

theorem witness_PredicatesExcludeEachOther :
    exec .isArpRequest (holding F1) = .next (after .isArpRequest (holding F1))
      ∧ exec .isIp (holding F1) = .next (after .isIp (holding F1))
      ∧ exec .isArpReply (holding F1) = .next (after .isArpReply (holding F1))
      ∧ exec .isPingRequest (holding F3) = .next (after .isPingRequest (holding F3))
      ∧ exec .isUdp (holding F3) = .next (after .isUdp (holding F3))
      ∧ exec .isTcpAck (holding F9) = .next (after .isTcpAck (holding F9))
      ∧ exec .isTcpFinAck (holding F9) = .next (after .isTcpFinAck (holding F9))
      ∧ exec .isMqttSubAck (holding F8) = .next (after .isMqttSubAck (holding F8))
      ∧ exec .isMqttPublish (holding F8) = .next (after .isMqttPublish (holding F8)) :=
  ⟨rfl, rfl, rfl, rfl, rfl, rfl, rfl, rfl, rfl⟩

theorem witness_IcmpEchoReplyMirrorsTheRequest :
    (4 ≤ (headed 0x41 0x00 0x08).ihl ∧ (headed 0x41 0x00 0x08).ihl + 4 ≤ (headed 0x41 0x00 0x08).ipTotLen
      ∧ 14 + (headed 0x41 0x00 0x08).ipTotLen ≤ 1522 ∧ (headed 0x41 0x00 0x08).ihl < 12)
    ∧ (20 ≤ (headed 0x45 0x05 0xE4).ihl ∧ (headed 0x45 0x05 0xE4).ihl + 4 ≤ (headed 0x45 0x05 0xE4).ipTotLen
      ∧ 14 + (headed 0x45 0x05 0xE4).ipTotLen ≤ 1522) := by decide

/-- Header lengths of 4, 8, 12, 16 and 20 bytes: each clause of the statement has one of them. -/
theorem witness_UdpReplyCarriesTheStagedPayload :
    (4 ≤ (headed 0x41 0 0).ihl ∧ (headed 0x41 0 0).l4Base + 8 + (headed 0x41 0 0).psbLen.toNat ≤ 1522
      ∧ (headed 0x41 0 0).ihl ≠ 8 ∧ (headed 0x41 0 0).ihl ≠ 12)
    ∧ (8 ≤ (headed 0x42 0 0).ihl ∧ 12 ≤ (headed 0x43 0 0).ihl ∧ (headed 0x43 0 0).ihl ≠ 8
      ∧ (headed 0x44 0 0).ihl = 16 ∧ 26 < (headed 0x44 0 0).l4Base)
    ∧ (20 ≤ (headed 0x45 0 0).ihl
      ∧ { headed 0x45 0 0 with psbLen := 1468 }.l4Base + 8 + (1468#16).toNat ≤ 1522) := by decide

theorem witness_ZeroHeaderLengthNeverLeavesTheBuffer :
    (headed 0x40 0x00 0x04).ihl = 0 ∧ 4 ≤ (headed 0x40 0x00 0x04).ipTotLen
      ∧ 14 + (headed 0x40 0x05 0xE4).ipTotLen ≤ 1522 ∧ 22 + (headed 0x40 0x00 0x04).psbLen.toNat ≤ 1522
      ∧ 22 + ((headed 0x40 0x0F 0x04).pbAt 16).toNat % 16 * 4 + (1440#16).toNat ≤ 1522
      ∧ 22 + (1441#16).toNat ≤ 1522
      ∧ 1522 < 22 + ((headed 0x40 0x0F 0x04).pbAt 16).toNat % 16 * 4 + (1441#16).toNat := by decide

theorem witness_TcpSegmentCarriesTheContext :
    T0.psbLen.toNat ≤ 1468 ∧ ({ T0 with psbLen := 1468 } : State).psbLen.toNat ≤ 1468
      ∧ 0x018#16 ∈ [0x002#16, 0x010#16, 0x011#16, 0x004#16, 0x014#16, 0x001#16, 0x018#16]
      ∧ 20 = (if 0x018#16 = 0x002#16 then 24 else 20) ∧ 24 = (if 0x002#16 = 0x002#16 then 24 else 20)
      ∧ 0 = (if 0x002#16 = 0x018#16 then T0.psbLen.toNat else 0) := by decide

theorem witness_TcpSegmentChecksumsVerify :
    T0.psbLen.toNat ≤ 1468 ∧ exec (.buildTcpSegment 0x002) T0 = .next (after (.buildTcpSegment 0x002) T0) :=
  ⟨by decide, rfl⟩

theorem witness_BuildersFaultBeforeAnyWrite :
    1522 < ({ headed 0x4F 0 0 with psbLen := 1441 } : State).l4Base + 8
        + ({ headed 0x4F 0 0 with psbLen := 1441 } : State).psbLen.toNat
      ∧ 0x012#16 ∉ [0x002#16, 0x010#16, 0x011#16, 0x004#16, 0x014#16, 0x001#16, 0x018#16]
      ∧ 0x1010#16 ∉ [0x002#16, 0x010#16, 0x011#16, 0x004#16, 0x014#16, 0x001#16, 0x018#16] := by decide

theorem witness_TopicPacketsUpToTheShortLength :
    (List.replicate 122 (0x78 : Byte)).length ≤ 122 ∧ 122 < (List.replicate 123 (0x78 : Byte)).length
      ∧ (List.replicate 100 (0x78 : Byte)).length + (List.replicate 25 (0x78 : Byte)).length ≤ 125
      ∧ 125 < (List.replicate 100 (0x78 : Byte)).length + (List.replicate 26 (0x78 : Byte)).length := by simp

theorem witness_FsmIdleAndActiveStay :
    T0.fsm = .idle ∧ ({ T0 with fsm := .tcpConnectionActive } : State).fsm = .tcpConnectionActive
      ∧ exec .fsmStep { T0 with fsm := .tcpConnectionActive }
        = .next (after .fsmStep { T0 with fsm := .tcpConnectionActive }) := ⟨rfl, rfl, rfl⟩

theorem witness_FsmStepLearnsTheBrokerAddress :
    ({ holding F2 with fsm := .waitArpResponse } : State).fsm = .waitArpResponse
      ∧ (shortAt (holding F2) 12 = 0x0806#16 ∧ longAt (holding F2) 38 = (holding F2).localIp
        ∧ shortAt (holding F2) 20 = 2#16)
      ∧ ¬ shortAt (holding F1) 20 = 2#16 := by decide

theorem witness_FsmStepCapturesThePeersNumbers :
    ({ holding F5 with fsm := .waitTcpSynAck } : State).fsm = .waitTcpSynAck
      ∧ ipHeaderValid (holding F5) ∧ (holding F5).pbAt 23 = 6#8 ∧ macAt (holding F5) 0 = (holding F5).localMac
      ∧ flagField (holding F5) = 0x012#12 ∧ ¬ flagField (holding F9) = 0x012#12
      ∧ ¬ flagField (holding F9) = 0x010#12 ∧ ¬ flagField (holding F9) = 0x018#12 :=
  ⟨rfl, ⟨by decide, by decide, by decide⟩, by decide, by decide, by decide, by decide, by decide, by decide⟩

theorem witness_FsmStepSendsAndAdvances :
    ({ T0 with fsm := .sendArpRequest } : State).fsm = .sendArpRequest
      ∧ ({ T0 with fsm := .sendTcpSyn } : State).fsm = .sendTcpSyn
      ∧ ({ T0 with fsm := .sendTcpAck } : State).fsm = .sendTcpAck := ⟨rfl, rfl, rfl⟩

end Sys2Proof.Tests
end

