-- ==== Sys2Proof/Proofs/StateRegisters.lean ====
section
/-! PROOFS. The registers of 10_state.md: which of them a command can change (R32), and what they hold after
reset (R47). -/

namespace Sys2Proof.Machine

/-! ### Frames over registers -/

theorem RegsKept.refl (l : List Reg) (s : State) : RegsKept l s s := fun _ _ => rfl

theorem RegsKept.trans {l : List Reg} {s t u : State} (h : RegsKept l s t) (k : RegsKept l t u) :
    RegsKept l s u := fun r hr => (k r hr).trans (h r hr)

theorem RegsKept.mono {l m : List Reg} {s t : State} (h : RegsKept l s t) (hlm : l ⊆ m) : RegsKept m s t :=
  fun r hr => h r (fun hl => hr (hlm hl))

theorem RegsKept.ite {l : List Reg} {s t u : State} {c : Prop} [Decidable c] (h : RegsKept l s t)
    (k : RegsKept l s u) : RegsKept l s (if c then t else u) := by
  split
  · exact h
  · exact k

theorem RegsKept.of_next {l : List Reg} {s t u : State} (h : RegsKept l s u)
    (e : (.next u : Host.Outcome State Fault Refusal) = .next t) : RegsKept l s t := by
  cases e
  exact h

/-! ### The register a `WR` names -/

theorem Reg.number_of_ofNumber? {n : Byte} {r : Reg} (h : Reg.ofNumber? n = some r) : r.number = n := by
  simpa using List.find?_some h

theorem Reg.number_of_writableReg {n : Byte} {r : Reg} (h : writableReg n = some r) : r.number = n :=
  Reg.number_of_ofNumber? (Option.filter_eq_some_iff.1 h).1

/-- A register write changes no other register (45_system.md R251). -/
theorem State.writeReg_regsKept (s : State) (w : Reg) (val : BitVec 48) : RegsKept [w] s (s.writeReg w val) := by
  intro r hr
  have hne : r ≠ w := fun e => hr (by simp [e])
  cases w <;> cases r <;> first | rfl | exact absurd rfl hne

/-- `WR` changes the register it names, and otherwise only the status registers (R251, R283, R284). -/
theorem execWr_regsKept {reg : Byte} {val : BitVec 48} {s t : State} (h : execWr reg val s = .next t) :
    RegsKept [.flags, .err] s t ∨ ∃ w, w.number = reg ∧ RegsKept [w, .flags, .err] s t := by
  obtain rfl := Host.Outcome.next.inj h
  split
  next => exact .inl ((s.raise_faulted _).rest.regs.mono (by decide))
  next w hw =>
    refine .inr ⟨w, Reg.number_of_writableReg hw, ?_⟩
    exact ((s.writeReg_regsKept w val).mono (by simp)).trans
      ((State.complete_only _).regs.mono (by simp))

/-! ### The configuration registers, numbers 0x00 to 0x09 -/

/-- The registers of number 0x00 to 0x09 (10_state.md R21 to R30). -/
def configRegs : List Reg := Reg.all.take 10

/-- The registers above the configuration: the context, the status registers and the lengths (R31 to R41). -/
def nonConfigRegs : List Reg := Reg.all.drop 10

theorem mem_configRegs_of_not_mem {r : Reg} (h : r ∉ nonConfigRegs) : r ∈ configRegs :=
  (List.mem_append.1 (show r ∈ configRegs ++ nonConfigRegs by cases r <;> decide)).resolve_right h

theorem not_mem_nonConfigRegs {r : Reg} (h : r.number.toNat ≤ 0x09) : r ∉ nonConfigRegs := by
  have above : ∀ q ∈ nonConfigRegs, 0x09 < q.number.toNat := by decide
  exact fun hr => absurd (above r hr) (by omega)

/-- The configuration is kept when the ten values, taken as a list, are. -/
theorem regsKept_of_config_eq {s t : State} (h : configRegs.map t.readReg = configRegs.map s.readReg) :
    RegsKept nonConfigRegs s t :=
  fun r hr => List.map_inj_left.1 h r (mem_configRegs_of_not_mem hr)

/-! ### No shared operation writes the configuration -/

/-- The whole UDP reply, its checksum injected, is written in `PB` only (42_builders.md R185). -/
theorem State.udpReplyFrame_pbOnly (s : State) (u n : Nat) : s.PbOnly (s.udpReplyPayload u n).injectUdp :=
  (s.udpReplyPayload_pbOnly u n).trans (State.inject_pbOnly _ _ _)

theorem State.PbOnly.keepsConfig {s t : State} (h : s.PbOnly t) : RegsKept nonConfigRegs s t :=
  fun r _ => h.readReg r

theorem State.PbOnly.transmit_keepsConfig {s t : State} (h : s.PbOnly t) (n : Nat) :
    RegsKept nonConfigRegs s (t.transmit n) :=
  (h.sent n).regs.mono (by decide)

section

variable (s : State)

theorem State.raise_keepsConfig (f : CmdFault) : RegsKept nonConfigRegs s (s.raise f) :=
  (s.raise_faulted f).rest.regs.mono (by decide)

theorem State.complete_keepsConfig : RegsKept nonConfigRegs s s.complete := s.complete_only.regs.mono (by decide)

theorem State.withResult_keepsConfig (v : Nat) : RegsKept nonConfigRegs s (s.withResult v).complete :=
  (s.withResult_only v).regs.mono (by decide)

theorem State.withMatch_keepsConfig (p : Bool) : RegsKept nonConfigRegs s (s.withMatch p).complete :=
  (s.withMatch_only p).regs.mono (by decide)

theorem State.injectCommand_keepsConfig (f : Nat) (sumOf : State → BitVec 32) :
    RegsKept nonConfigRegs s (s.injectCommand f sumOf) := by
  obtain ⟨_, hregs, _, _⟩ := s.injectCommand_spec f sumOf
  exact hregs.mono (by decide)

theorem State.construct_keepsConfig (bs : List Byte) : RegsKept nonConfigRegs s (s.construct bs) := by
  obtain ⟨_, _, hregs, _, _⟩ := s.construct_spec bs
  exact hregs.mono (by decide)

theorem State.constructWithin_keepsConfig (rl : Nat) (bs : List Byte) :
    RegsKept nonConfigRegs s (s.constructWithin rl bs) :=
  .ite (s.raise_keepsConfig _) (s.construct_keepsConfig _)

theorem State.recordLength_keepsConfig (p : Bool) : RegsKept nonConfigRegs s (s.recordLength p) :=
  .ite (regsKept_of_config_eq rfl) (.refl _ _)

theorem State.psbStore_keepsConfig (a : Nat) (bs : List Byte) : RegsKept nonConfigRegs s (s.psbStore a bs) :=
  fun r _ => s.readReg_psbStore r a bs

theorem State.sum_keepsConfig (x : BitVec 32) : RegsKept nonConfigRegs s { s with sum := x } :=
  regsKept_of_config_eq rfl

theorem State.rxLen_keepsConfig (n : BitVec 16) : RegsKept nonConfigRegs s { s with rxLen := n } :=
  regsKept_of_config_eq rfl

theorem State.psbLen_keepsConfig (n : BitVec 16) : RegsKept nonConfigRegs s { s with psbLen := n } :=
  regsKept_of_config_eq rfl

theorem State.loadContext_keepsConfig : RegsKept nonConfigRegs s s.loadContext := regsKept_of_config_eq rfl

theorem State.pollOverflow_keepsConfig : RegsKept nonConfigRegs s s.pollOverflow := regsKept_of_config_eq rfl

theorem State.advance_keepsConfig (q : FsmState) : RegsKept nonConfigRegs s (s.advance q) := regsKept_of_config_eq rfl

theorem State.sendArpRequest_keepsConfig (ip : BitVec 32) : RegsKept nonConfigRegs s (s.sendArpRequest ip) :=
  (s.arpRequestFrame_pbOnly ip).transmit_keepsConfig _

theorem State.sendTcpSegment_keepsConfig (f : Nat) : RegsKept nonConfigRegs s (s.sendTcpSegment f) :=
  (s.tcpFrame_pbOnly f).transmit_keepsConfig _

end

/-- A command behind the layer-4 checks (40_checksum.md R136 to R138, 42_builders.md R184). -/
theorem l4Checked_keepsConfig {s t : State} (fault : Option CmdFault) (h : RegsKept nonConfigRegs s t) :
    RegsKept nonConfigRegs s (match fault with | some f => s.raise f | none => t) := by
  cases fault with
  | none => exact h
  | some f => exact s.raise_keepsConfig f

/-- A command that takes a register by number (45_system.md R250, R252). -/
theorem regOperand_keepsConfig {s : State} (reg : Option Reg) {use : Reg → State}
    (h : ∀ r, RegsKept nonConfigRegs s (use r)) :
    RegsKept nonConfigRegs s (match reg with | none => s.raise .badOperand | some r => use r) := by
  cases reg with
  | none => exact s.raise_keepsConfig _
  | some r => exact h r

/-! ### Every command but `WR` and `FSM.STEP` keeps the configuration -/

theorem exec_keepsConfig {i : Instr} {s t : State} (hwr : ∀ reg val, i ≠ .wr reg val) (hstep : i ≠ .fsmStep)
    (h : exec i s = .next t) : RegsKept nonConfigRegs s t := by
  cases i with
  | rd reg => exact (regOperand_keepsConfig _ fun r => s.withResult_keepsConfig _).of_next h
  | wr reg val => exact absurd rfl (hwr reg val)
  | ipvalid reg => exact (regOperand_keepsConfig _ fun r => s.withMatch_keepsConfig _).of_next h
  | ctxLoad => exact (s.loadContext_keepsConfig.trans (State.complete_keepsConfig _)).of_next h
  | rxOvf => exact (s.pollOverflow_keepsConfig.trans (State.complete_keepsConfig _)).of_next h
  | pbRd off => exact (RegsKept.ite (s.raise_keepsConfig _) (s.withResult_keepsConfig _)).of_next h
  | pbWr off byte =>
    have stored := (s.pbStore_pbOnly off.toNat [byte]).keepsConfig
    exact (RegsKept.ite (s.raise_keepsConfig _) (stored.trans (State.complete_keepsConfig _))).of_next h
  | psbRd off => exact (RegsKept.ite (s.raise_keepsConfig _) (s.withResult_keepsConfig _)).of_next h
  | rxLoad data =>
    have stored := (s.pbStore_pbOnly 0 data).keepsConfig.trans (State.rxLen_keepsConfig _ (BitVec.ofNat 16 data.length))
    exact (RegsKept.ite (s.raise_keepsConfig _) (stored.trans (State.complete_keepsConfig _))).of_next h
  | psbLoad data =>
    have stored := (s.psbStore_keepsConfig 0 data).trans (State.psbLen_keepsConfig _ (BitVec.ofNat 16 data.length))
    exact (RegsKept.ite (s.raise_keepsConfig _) (stored.trans (State.complete_keepsConfig _))).of_next h
  | acc off cnt =>
    have summed := (s.sum_keepsConfig (s.acc off.toNat cnt.toNat s.sum)).trans (State.complete_keepsConfig _)
    exact (RegsKept.ite (s.raise_keepsConfig _) summed).of_next h
  | fold => exact (s.withResult_keepsConfig _).of_next h
  | ckIp => exact (s.injectCommand_keepsConfig _ _).of_next h
  | ckIcmp | ckUdp | ckTcp => exact (l4Checked_keepsConfig _ (s.injectCommand_keepsConfig _ _)).of_next h
  | isIp | isIpUnicast | isArpRequest | isArpReply | isPingRequest | isUdp | isTcp | isTcpAck | isTcpFinAck
  | isTcpResetAck | isMqttConnectAck => exact (s.withMatch_keepsConfig _).of_next h
  | isMqttSubAck | isMqttUnSubAck | isMqttPublish =>
    exact ((s.recordLength_keepsConfig _).trans (State.withMatch_keepsConfig _ _)).of_next h
  | buildArpReply => exact (s.arpReplyFrame_pbOnly.transmit_keepsConfig _).of_next h
  | buildArpRequest ip => exact (s.sendArpRequest_keepsConfig ip).of_next h
  | buildIcmpEchoReply =>
    exact (l4Checked_keepsConfig _
      (.ite (s.raise_keepsConfig _) (s.icmpReplyFrame_pbOnly.transmit_keepsConfig _))).of_next h
  | buildUdpReply =>
    have sent := (s.udpReplyFrame_pbOnly s.l4Base s.psbLen.toNat).transmit_keepsConfig
      (s.l4Base + 8 + s.psbLen.toNat)
    exact (RegsKept.ite (s.raise_keepsConfig _) (.ite (s.raise_keepsConfig _) sent)).of_next h
  | buildTcpSegment flags =>
    exact (RegsKept.ite (s.sendTcpSegment_keepsConfig _) (s.raise_keepsConfig _)).of_next h
  | mqConnect | mqDisconnect => exact (s.construct_keepsConfig _).of_next h
  | mqSubscribe topic | mqUnsubscribe topic | mqPublish topic data =>
    exact (s.constructWithin_keepsConfig _ _).of_next h
  | fsmConnect =>
    exact (RegsKept.ite ((s.advance_keepsConfig _).trans (State.complete_keepsConfig _))
      (s.withMatch_keepsConfig _)).of_next h
  | fsmStep => exact absurd rfl hstep

/-! ### What `FSM.STEP` writes of the configuration -/

/-- Both SYN and ACK are sent on a freshly loaded context (44_fsm.md R235, R237). -/
theorem State.sendOnContext_keepsConfig (s : State) (f : Nat) (q : FsmState) :
    RegsKept nonConfigRegs s ((s.loadContext.complete.sendTcpSegment f).advance q) :=
  ((s.loadContext_keepsConfig.trans (State.complete_keepsConfig _)).trans
    (State.sendTcpSegment_keepsConfig _ _)).trans (State.advance_keepsConfig _ _)

/-- The configuration registers that the state machine learns in each state (10_state.md R32). -/
def FsmState.learns : FsmState → List Reg
  | .waitArpResponse => [.brokerMac]
  | .waitTcpSynAck => [.tcpSeq, .tcpAck]
  | _ => []

/-- Registers `l` learned, then the transition taken. -/
theorem RegsKept.advance_complete {l : List Reg} {s t : State} (h : RegsKept l s t) (q : FsmState) :
    RegsKept (l ++ nonConfigRegs) s (t.advance q).complete :=
  (h.mono (List.subset_append_left _ _)).trans
    (((t.advance_keepsConfig q).trans (State.complete_keepsConfig _)).mono (List.subset_append_right _ _))

theorem State.stay_keepsConfig (s : State) (l : List Reg) : RegsKept (l ++ nonConfigRegs) s s.stay :=
  (s.withMatch_keepsConfig false).mono (List.subset_append_right _ _)

/-- The ARP reply teaches `BROKER_MAC` (44_fsm.md R234). -/
theorem State.armWaitArpResponse_regsKept (s : State) :
    RegsKept ([.brokerMac] ++ nonConfigRegs) s s.armWaitArpResponse :=
  .ite ((s.writeReg_regsKept .brokerMac (BitVec.ofNat 48 (s.memRead 22 6))).advance_complete .sendTcpSyn)
    (s.stay_keepsConfig _)

/-- The SYN-ACK teaches `TCP_SEQ` and `TCP_ACK` (44_fsm.md R236). -/
theorem State.armWaitTcpSynAck_regsKept (s : State) :
    RegsKept ([.tcpSeq, .tcpAck] ++ nonConfigRegs) s s.armWaitTcpSynAck := by
  have learned : ∀ seq ack : BitVec 32, RegsKept [.tcpSeq, .tcpAck] s { s with tcpAck := ack, tcpSeq := seq } := by
    intro seq ack
    have written := ((s.writeReg_regsKept .tcpAck (ack.setWidth 48)).mono (m := [.tcpSeq, .tcpAck]) (by decide)).trans
      ((State.writeReg_regsKept _ .tcpSeq (seq.setWidth 48)).mono (by decide))
    simpa [State.writeReg] using written
  exact .ite ((learned _ _).advance_complete .sendTcpAck) (s.stay_keepsConfig _)

/-- `FSM.STEP` writes of the configuration what the state it waits in learns, and nothing else. -/
theorem execFsmStep_regsKept {s t : State} (h : execFsmStep s = .next t) :
    RegsKept (s.fsm.learns ++ nonConfigRegs) s t := by
  obtain rfl := Host.Outcome.next.inj h
  cases hq : s.fsm with
  | idle | tcpConnectionActive => exact s.stay_keepsConfig []
  | sendArpRequest => exact (s.sendArpRequest_keepsConfig _).trans (State.advance_keepsConfig _ _)
  | waitArpResponse => exact s.armWaitArpResponse_regsKept
  | sendTcpSyn | sendTcpAck => exact s.sendOnContext_keepsConfig _ _
  | waitTcpSynAck => exact s.armWaitTcpSynAck_regsKept

/-! ### After reset -/

/-- The reset values of 10_state.md R47 hold after every reset, whatever the unspecified registers hold. -/
theorem State.afterReset_holdsTheStatedValues (epoch : Nat) :
    (State.afterReset epoch).readReg .fsmState = 0 ∧ (State.afterReset epoch).readReg .flags = 0
      ∧ (State.afterReset epoch).readReg .err = 0 ∧ (State.afterReset epoch).readReg .result = 0
      ∧ (State.afterReset epoch).readReg .rxLen = 0 ∧ (State.afterReset epoch).readReg .psbLen = 0
      ∧ (State.afterReset epoch).readReg .mqLen = 0 ∧ (State.afterReset epoch).txLog = [] :=
  ⟨rfl, rfl, rfl, rfl, rfl, rfl, rfl, rfl⟩

/-! ### The statements -/

/-- Settles O10: `WR` changes only the register it names, `FSM.STEP` only what its state learns, and every
other command keeps the configuration. -/
theorem configurationChangesOnlyBySetterOrHandshake :
    Obligations.ConfigurationChangesOnlyBySetterOrHandshake := by
  intro i s t r h hr hchanged
  have hconfig : r ∉ nonConfigRegs := not_mem_nonConfigRegs hr
  by_cases hwr : ∃ reg val, i = .wr reg val
  · obtain ⟨reg, val, rfl⟩ := hwr
    have status_subset : [Reg.flags, .err] ⊆ nonConfigRegs := by decide
    have hstatus : r ∉ [Reg.flags, .err] := fun hm => hconfig (status_subset hm)
    obtain hkept | ⟨w, rfl, hkept⟩ := execWr_regsKept h
    · exact absurd (hkept r hstatus) hchanged
    · have hrw : r = w := by
        by_contra hne
        exact hchanged (hkept r (List.not_mem_cons_of_ne_of_not_mem hne hstatus))
      exact .inl ⟨val, by rw [hrw]⟩
  · by_cases hstep : i = .fsmStep
    · subst hstep
      have hlearned : r ∈ s.fsm.learns := by
        by_contra hnot
        exact hchanged (execFsmStep_regsKept h r (by simp [hnot, hconfig]))
      cases hq : s.fsm with
      | waitArpResponse => exact .inr (.inl ⟨rfl, rfl, by simpa [hq, FsmState.learns] using hlearned⟩)
      | waitTcpSynAck => exact .inr (.inr ⟨rfl, rfl, by simpa [hq, FsmState.learns] using hlearned⟩)
      | _ => simp [hq, FsmState.learns] at hlearned
    · exact absurd (exec_keepsConfig (fun reg val e => hwr ⟨reg, val, e⟩) hstep h r hconfig) hchanged

/-- Settles O5: the machine starts in the state after the reset that begins epoch 0. -/
theorem resetStateHoldsTheStatedValues : Obligations.ResetStateHoldsTheStatedValues :=
  State.afterReset_holdsTheStatedValues 0

end Sys2Proof.Machine
end

