-- ==== Sys2Proof/Proofs/ReservedOpcodes.lean ====
section
/-! PROOFS. The reserved opcodes of 30_encoding.md R106: they are the opcodes without a format, the opcodes the
decoder rejects whatever follows them, and a step on what the decoder rejects is precise (60_exceptions.md
R283, R286). -/

namespace Sys2Proof

/-! ### The opcodes without a format -/

theorem formatOf_eq_none_iff (op : Byte) : formatOf op = none ↔ op ∉ opcodeMap.map Prod.fst := by
  simp only [formatOf, List.lookup_eq_none_iff, List.mem_map, not_exists, not_and, bne_iff_ne, ne_comm, ne_eq]

/-- The listed ranges are the gaps between the opcodes of the map (R105, R106). -/
theorem reservedOpcode_iff_not_mem_opcodeMap (op : Byte) :
    reservedOpcode op ↔ op ∉ opcodeMap.map Prod.fst := by
  simp only [reservedOpcode, opcodeMap, List.map_cons, List.map_nil, List.mem_cons, List.not_mem_nil, or_false,
    not_or, BitVec.le_def, ← BitVec.toNat_inj, BitVec.reduceToNat]
  constructor
  · omega
  · intro hgaps
    omega

/-! ### The opcodes the decoder rejects -/

/-- The longest fixed part is that of format `W` (R102). -/
theorem Format.fixedLength_le (fmt : Format) : fmt.fixedLength ≤ 8 := by
  cases fmt <;> simp [Format.fixedLength]

/-- `ILLEGAL_OPCODE` is the verdict on a command whose opcode has no format, or whose format has a longer fixed
part (R104). -/
theorem decode_cons_eq_illegalOpcode_iff (op : Byte) (args : List Byte) :
    decode (op :: args) = .illegalOpcode ↔
      ∀ fmt, formatOf op = some fmt → (op :: args).length < fmt.fixedLength := by
  cases hfmt : formatOf op with
  | none => simp [decode, hfmt]
  | some fmt =>
    simp only [decode, hfmt, Option.some.injEq, forall_eq']
    by_cases hshort : (op :: args).length < fmt.fixedLength
    · simp only [hshort, if_true]
    · simp only [hshort, if_false, iff_false]
      split <;> exact nofun

/-- An opcode that has a format is rejected only for want of operands: behind seven bytes, the longest fixed
part is there. -/
theorem formatOf_eq_none_iff_decode (op : Byte) :
    formatOf op = none ↔ ∀ args, decode (op :: args) = .illegalOpcode := by
  constructor
  · intro hnone args
    simp [decode_cons_eq_illegalOpcode_iff, hnone]
  · intro hillegal
    rw [Option.eq_none_iff_forall_ne_some]
    intro fmt hfmt
    have hshort := (decode_cons_eq_illegalOpcode_iff op (List.replicate 7 0)).mp (hillegal _) fmt hfmt
    exact absurd hshort (Nat.not_lt.mpr fmt.fixedLength_le)

theorem reservedOpcode_iff_decode (op : Byte) :
    reservedOpcode op ↔ ∀ args, decode (op :: args) = .illegalOpcode := by
  rw [reservedOpcode_iff_not_mem_opcodeMap, ← formatOf_eq_none_iff, formatOf_eq_none_iff_decode]

end Sys2Proof

namespace Sys2Proof.Machine

/-! ### A step on a rejected command -/

/-- A step takes the oldest command from the inbox and runs it on the state without it (R79, R100). -/
theorem step_of_command {s : State} {bytes : List Byte} {rest : List HostInput}
    (h : s.inbox = .command bytes :: rest) : step s = runCommand bytes { s with inbox := rest } := by
  simp [step, State.takeInput, h]

theorem runCommand_of_illegalOpcode {bytes : List Byte} (h : decode bytes = .illegalOpcode) (s : State) :
    runCommand bytes s = .next (s.raise .illegalOpcode).respond := by
  simp [runCommand, h, respondTo]

/-- No register is the inbox. -/
@[simp] theorem State.readReg_inbox (s : State) (rest : List HostInput) (r : Reg) :
    ({ s with inbox := rest } : State).readReg r = s.readReg r := by
  cases r <;> rfl

/-- A fault raised on the state without the command, with its response record, is all that a decoder's fault
leaves (60_exceptions.md R283). -/
theorem State.respond_raise_stepFaulted (s : State) (f : CmdFault) (rest : List HostInput) :
    StepFaulted f rest s (({ s with inbox := rest } : State).raise f).respond := by
  have regs : RegsKept [.err, .flags] s (({ s with inbox := rest } : State).raise f).respond := by
    intro r hr
    rw [State.readReg_respond, (State.raise_faulted _ f).rest.regs r hr, State.readReg_inbox]
  exact ⟨rfl, rfl, regs, fun _ => rfl, fun _ => rfl, rfl, rfl, rfl, rfl, rfl, rfl, rfl, rfl⟩

/-- Settles O17: the reserved opcodes are those without a format, which the decoder rejects before it reads an
operand, and what it rejects is raised as a precise fault. -/
theorem reservedOpcodesFault : Obligations.ReservedOpcodesFault := by
  refine ⟨reservedOpcode_iff_decode, fun s op args rest hreserved hinbox => ?_⟩
  have hillegal := (reservedOpcode_iff_decode op).mp hreserved args
  exact ⟨_, (step_of_command hinbox).trans (runCommand_of_illegalOpcode hillegal _),
    s.respond_raise_stepFaulted .illegalOpcode rest⟩

end Sys2Proof.Machine
end

