-- ==== Sys2Proof/Proofs/ChecksumEngine.lean ====
section
/-! PROOFS. The Checksum Engine of 40_checksum.md: `ACC` (R132), `Fold` and `FOLD` (R131, R133), and `CK.IP`
for every header length (R135). The sums are taken as exact integers and the fold as a remainder modulo 0xFFFF,
in the laws of Sys2Proof/Laws/Checksum.lean. -/

namespace Sys2Proof

/-! ### The encoding of format `OC` -/

/-- A command that has the length its format requires is decoded to what the format makes of it (R104). -/
theorem decode_cons_of_length {op : Byte} {args : List Byte} {fmt : Format} (hfmt : formatOf op = some fmt)
    (hfixed : fmt.fixedLength ≤ (op :: args).length)
    (hlength : (op :: args).length = fmt.requiredLength (op :: args)) :
    decode (op :: args) = .command (fmt.assemble (op :: args)) := by
  simp only [decode, hfmt]
  rw [if_neg (Nat.not_lt.mpr hfixed), if_neg (not_not.mpr hlength)]

/-- A 16-bit operand reads back from where it was laid out (R103). -/
theorem operand_beBytes_two (pre suf : List Byte) (i : Nat) (v : BitVec 16) (hi : pre.length = i) :
    operand (pre ++ beBytes 2 v.toNat ++ suf) i 2 = v.toNat := by
  rw [operand_at pre _ suf i 2 hi (Machine.beBytes_length 2 _), beNat_beBytes_of_lt 2 _ v.isLt]

theorem Format.assemble_oc (k : BitVec 16 → BitVec 16 → Instr) (op : Byte) (off cnt : BitVec 16) :
    (Format.oc k).assemble (op :: (beBytes 2 off.toNat ++ beBytes 2 cnt.toNat)) = k off cnt := by
  have hoff := operand_beBytes_two [op] (beBytes 2 cnt.toNat) 1 off rfl
  have hcnt := operand_beBytes_two (op :: beBytes 2 off.toNat) [] 3 cnt (by simp)
  simp only [List.append_nil, List.cons_append, List.nil_append] at hoff hcnt
  simp only [Format.assemble, hoff, hcnt, BitVec.ofNat_toNat, BitVec.setWidth_eq]

theorem decode_acc (off cnt : BitVec 16) :
    decode (0x10 :: (beBytes 2 off.toNat ++ beBytes 2 cnt.toNat)) = .command (.acc off cnt) := by
  have hfmt : formatOf 0x10 = some (.oc .acc) := rfl
  rw [decode_cons_of_length hfmt (by simp [Format.fixedLength])
    (by simp [Format.requiredLength, Format.fixedLength]), Format.assemble_oc]

end Sys2Proof

namespace Sys2Proof.Machine

/-! ### `ACC` -/

/-- A command that writes a sum into `SUM` and completes (R132). -/
theorem State.sum_only (s : State) (x : BitVec 32) :
    OnlyRegs [.sum, .err] s ({ s with sum := x } : State).complete where
  regs := fun r hr => by
    rw [State.readReg_complete _ r (fun e => hr (by simp [e]))]
    cases r with
    | sum | err => simp at hr
    | _ => rfl
  pb := fun _ => rfl
  psb := fun _ => rfl
  ports := ⟨rfl, rfl, rfl, rfl, rfl, rfl, rfl, rfl⟩

theorem exec_acc_of_inside {off cnt : BitVec 16} (h : off.toNat + cnt.toNat ≤ 1522) (s : State) :
    exec (.acc off cnt) s = .next ({ s with sum := s.acc off.toNat cnt.toNat s.sum } : State).complete :=
  congrArg Host.Outcome.next (if_neg (Nat.not_lt.mpr h))

theorem exec_acc_of_beyond {off cnt : BitVec 16} (h : 1522 < off.toNat + cnt.toNat) (s : State) :
    exec (.acc off cnt) s = .next (s.raise .bounds) :=
  congrArg Host.Outcome.next (if_pos h)

/-- Settles O30: inside the buffer `ACC` writes `Acc` of the range into `SUM`, which is the exact word sum
modulo 2^32; beyond it the fault is precise. -/
theorem accAddsTheWordsOfTheRange : Obligations.AccAddsTheWordsOfTheRange := by
  refine ⟨decode_acc, fun s off cnt => ⟨fun hinside => ?_, fun hbeyond => ?_⟩⟩
  · refine ⟨_, exec_acc_of_inside hinside s, ?_, State.complete_err _, s.sum_only _⟩
    rw [State.complete_sum]
    exact s.acc_toNat off.toNat cnt.toNat s.sum
  · exact ⟨_, exec_acc_of_beyond hbeyond s, s.raise_faulted .bounds⟩

/-! ### `FOLD` -/

theorem exec_fold (s : State) : exec .fold s = .next (s.withResult (fold s.sum).toNat).complete := rfl

/-- A 16-bit value handed back in `RESULT` is zero-extended (10_state.md R37). -/
theorem State.withResult_result_setWidth (s : State) (v : BitVec 16) :
    (s.withResult v.toNat).complete.result = v.setWidth 48 := by
  rw [State.complete_result, State.withResult_result, BitVec.ofNat_toNat]

theorem toNat_setWidth_48 (v : BitVec 16) : (v.setWidth 48).toNat = v.toNat :=
  BitVec.toNat_setWidth_of_le (by decide)

/-- The fold of a nonzero sum is what is missing to the next multiple of 0xFFFF (R131). -/
theorem fold_complements {x : BitVec 32} (h : x ≠ 0) :
    (fold x).toNat < 65535 ∧ ((fold x).toNat + x.toNat) % 65535 = 0 := by
  have hpos : x.toNat ≠ 0 := fun e => h (BitVec.eq_of_toNat_eq e)
  rw [fold_toNat, if_neg hpos]
  omega

/-- Settles O31: `RESULT` is the zero-extended fold of `SUM`, whose value is that of `fold_toNat`. -/
theorem foldHandsBackTheOnesComplement : Obligations.FoldHandsBackTheOnesComplement := by
  refine ⟨rfl, fun s => ⟨_, exec_fold s, ?_, ?_, State.complete_err _, s.withResult_only _⟩⟩
  · intro hzero
    rw [State.withResult_result_setWidth, toNat_setWidth_48, fold_toNat, hzero]
    rfl
  · intro hnonzero
    rw [State.withResult_result_setWidth, toNat_setWidth_48]
    exact fold_complements hnonzero

/-! ### The loop of `Fold` -/

theorem foldRound_toNat (x : BitVec 32) : (foldRound x).toNat = x.toNat % 65536 + x.toNat / 65536 := by
  have hx := x.isLt
  rw [foldRound, BitVec.toNat_ofNat]
  omega

/-- A round adds the upper half to the lower half (R131). -/
theorem foldRound_eq (x : BitVec 32) : foldRound x = (x.setWidth 16).setWidth 32 + x >>> 16 := by
  apply BitVec.eq_of_toNat_eq
  have hx := x.isLt
  simp only [foldRound_toNat, BitVec.toNat_add, BitVec.toNat_setWidth, BitVec.toNat_ushiftRight,
    Nat.shiftRight_eq_div_pow]
  omega

theorem ushiftRight_16_eq_zero_iff (x : BitVec 32) : x >>> 16 = 0 ↔ x.toNat / 65536 = 0 := by
  rw [← BitVec.toNat_inj, BitVec.toNat_ushiftRight, Nat.shiftRight_eq_div_pow]
  rfl

/-- A round of the loop, in the words of R131. -/
theorem foldLoop_succ (k : Nat) (x : BitVec 32) :
    foldLoop (k + 1) x = if x >>> 16 = 0 then x else foldLoop k ((x.setWidth 16).setWidth 32 + x >>> 16) := by
  simp only [foldLoop, foldRound_eq, ushiftRight_16_eq_zero_iff]

/-- The loop stops where the upper half is zero. -/
theorem foldLoop_of_upper_zero {x : BitVec 32} (h : x.toNat / 65536 = 0) (k : Nat) : foldLoop k x = x := by
  cases k with
  | zero => rfl
  | succ k => exact if_pos h

theorem foldLoop_add (m k : Nat) (x : BitVec 32) : foldLoop (m + k) x = foldLoop k (foldLoop m x) := by
  induction m generalizing x with
  | zero => rw [Nat.zero_add, foldLoop]
  | succ m ih =>
    by_cases hupper : x.toNat / 65536 = 0
    · simp only [foldLoop_of_upper_zero hupper]
    · rw [Nat.succ_add, foldLoop, foldLoop, if_neg hupper, if_neg hupper, ih]

/-- The first round leaves at most 0x1FFFE, the second at most 0xFFFF. -/
theorem foldLoop_two_upper_zero (x : BitVec 32) : (foldLoop 2 x).toNat / 65536 = 0 := by
  have hx := x.isLt
  have first := foldRound_toNat x
  have second := foldRound_toNat (foldRound x)
  by_cases hupper : x.toNat / 65536 = 0
  · rw [foldLoop_of_upper_zero hupper, hupper]
  · by_cases hround : (foldRound x).toNat / 65536 = 0
    · rw [foldLoop, if_neg hupper, foldLoop_of_upper_zero hround, hround]
    · rw [foldLoop, if_neg hupper, foldLoop, if_neg hround, foldLoop]
      omega

theorem fold_eq_not_setWidth (x : BitVec 32) : fold x = ~~~ ((foldLoop 2 x).setWidth 16) := by
  rw [fold, BitVec.ofNat_toNat]

/-- Settles O32: after two rounds the upper half is zero, so the rounds beyond them do nothing. -/
theorem foldLoopEndsInTwoRounds : Obligations.FoldLoopEndsInTwoRounds := by
  refine ⟨foldLoop_succ, fun k x => ⟨?_, foldLoop_two_upper_zero x, fold_eq_not_setWidth x⟩,
    by decide, by decide, by decide, by decide, by decide⟩
  rw [Nat.add_comm, foldLoop_add, foldLoop_of_upper_zero (foldLoop_two_upper_zero x)]

/-! ### A checksum command's answer -/

section

variable (s : State) (f : Nat) (sumOf : State → BitVec 32)

/-- The field of `PB` that a checksum command writes (R135 to R138). -/
theorem State.memRead_injectCommand : (s.injectCommand f sumOf).memRead f 2 = (s.checksumFor f sumOf).toNat := by
  rw [State.memRead_congr (s.inject f sumOf) _ f 2 (fun k _ _ => s.pbAt_injectCommand f k sumOf),
    State.memRead_inject]

theorem State.injectCommand_result_setWidth :
    (s.injectCommand f sumOf).result = (s.checksumFor f sumOf).setWidth 48 := by
  rw [State.injectCommand_result, BitVec.ofNat_toNat]

/-- `RESULT` hands back the checksum that stands in the field. -/
theorem State.injectCommand_result_toNat :
    (s.injectCommand f sumOf).result.toNat = (s.injectCommand f sumOf).memRead f 2 := by
  rw [State.injectCommand_result_setWidth, State.memRead_injectCommand, toNat_setWidth_48]

end

/-! ### `CK.IP` -/

section

variable (s : State)

/-- The checksum field lies behind the byte of the header length (20_memory.md R69). -/
theorem State.ihl_memWrite_24 (v : Nat) : (s.memWrite 24 2 v).ihl = s.ihl :=
  State.ihl_congr _ _ (s.pbAt_memWrite_of_lt 14 24 2 v (by decide))

theorem State.checksumFor_ipSum :
    s.checksumFor 24 State.ipSum = fold ((s.memWrite 24 2 0).acc 14 s.ihl 0) := by
  rw [State.checksumFor, State.ipSum, State.ihl_memWrite_24]

/-- A header that ends before the checksum field does not see it zeroed (R135). -/
theorem State.acc_zeroed_of_short (h : s.ihl ≤ 8) (x : BitVec 32) :
    (s.memWrite 24 2 0).acc 14 s.ihl x = s.acc 14 s.ihl x :=
  State.acc_congr _ _ _ _ _ (fun k _ hk => s.pbAt_memWrite_of_lt k 24 2 0 (by omega))

/-- The fold of no bytes is 0xFFFF (R135). -/
theorem State.checksumFor_ipSum_of_ihl_zero (h : s.ihl = 0) : (s.checksumFor 24 State.ipSum).toNat = 0xFFFF := by
  have hsum := (s.memWrite 24 2 0).ipSum_toNat
  rw [State.ihl_memWrite_24, h, exactWordSum_zero] at hsum
  rw [State.checksumFor, fold_toNat, if_pos hsum]

theorem State.ihl_injectCommand_24 (sumOf : State → BitVec 32) : (s.injectCommand 24 sumOf).ihl = s.ihl := by
  obtain ⟨hpb, _, _, _⟩ := s.injectCommand_spec 24 sumOf
  exact State.ihl_congr _ _ (hpb 14 (by decide))

/-- After `CK.IP` a header that covers its checksum field folds to zero (R135, R139). -/
theorem State.fold_ipSum_injectCommand (h : 12 ≤ s.ihl) : fold (s.injectCommand 24 State.ipSum).ipSum = 0 := by
  rw [State.ipSum_congr (s.inject 24 State.ipSum) _ (fun k _ _ => s.pbAt_injectCommand 24 k State.ipSum)]
  exact s.fold_ipSum_inject h

end

theorem exec_ckIp (s : State) : exec .ckIp s = .next (s.injectCommand 24 State.ipSum) := rfl

/-- Settles O34: the checksum injected is the fold of the header sum over the zeroed field; the cases of the
header length differ in what that sum covers. -/
theorem ckIpMakesTheHeaderValid : Obligations.CkIpMakesTheHeaderValid := by
  refine ⟨rfl, fun s => ⟨_, exec_ckIp s, ?_⟩⟩
  have hihl := s.ihl_injectCommand_24 State.ipSum
  have hresult : (s.injectCommand 24 State.ipSum).result
      = (fold ((s.memWrite 24 2 0).acc 14 s.ihl 0)).setWidth 48 := by
    rw [State.injectCommand_result_setWidth, State.checksumFor_ipSum]
  refine ⟨s.injectCommand_result_toNat 24 _, State.injectCommand_err .., hihl, hresult, fun hshort => ?_,
    fun hempty => ?_, fun hcovers => ?_, s.injectCommand_spec 24 _⟩
  · rw [hresult, s.acc_zeroed_of_short hshort]
  · rw [State.memRead_injectCommand, s.checksumFor_ipSum_of_ihl_zero (hihl ▸ hempty)]
  · exact s.fold_ipSum_injectCommand (hihl ▸ hcovers)

end Sys2Proof.Machine
end

