-- ==== Sys2Proof/Proofs/ClassifierAnswers.lean ====
section
/-! PROOFS. What the Frame Classifier's predicates answer (41_classifier.md R151 to R166). The fields they read
are stated once as words of `PB`, each predicate once as an equivalence, and the two ways a classifier command
ends once for all fourteen. -/

namespace Sys2Proof.Machine

/-! ### A field as a word -/

theorem toNat_append_byte {w : Nat} (x : BitVec w) (b : Byte) : (x ++ b).toNat = x.toNat * 256 + b.toNat := by
  rw [BitVec.toNat_append, ← Nat.shiftLeft_add_eq_or_of_lt b.isLt, Nat.shiftLeft_eq]

section

variable (s : State) (a : Nat)

theorem State.memRead_two_eq_shortAt : s.memRead a 2 = (shortAt s a).toNat := by
  rw [State.memRead_two, shortAt, toNat_append_byte]

theorem State.memRead_four_eq_longAt : s.memRead a 4 = (longAt s a).toNat := by
  simp only [State.memRead_four, longAt, toNat_append_byte]
  omega

theorem State.memRead_six_eq_macAt : s.memRead a 6 = (macAt s a).toNat := by
  simp only [State.memRead_six, macAt, toNat_append_byte]
  omega

theorem State.memRead_one_eq_iff (v : Byte) : s.memRead a 1 = v.toNat ↔ s.pbAt a = v := by
  rw [State.memRead_one, BitVec.toNat_inj]

theorem State.memRead_two_eq_iff (v : BitVec 16) : s.memRead a 2 = v.toNat ↔ shortAt s a = v := by
  rw [State.memRead_two_eq_shortAt, BitVec.toNat_inj]

theorem State.memRead_four_eq_iff (v : BitVec 32) : s.memRead a 4 = v.toNat ↔ longAt s a = v := by
  rw [State.memRead_four_eq_longAt, BitVec.toNat_inj]

theorem State.memRead_six_eq_iff (v : BitVec 48) : s.memRead a 6 = v.toNat ↔ macAt s a = v := by
  rw [State.memRead_six_eq_macAt, BitVec.toNat_inj]

end

section

variable (s : State)

/-! ### Header location (20_memory.md R77) -/

theorem State.l4Base_eq_payloadOffset : s.l4Base = payloadOffset s := by
  rw [State.l4Base, State.ihl_eq, payloadOffset]

theorem State.mqBase_eq_mqttOffset : s.mqBase = mqttOffset s := by
  rw [State.mqBase, State.tcpDoff, State.memRead_one, State.l4Base_eq_payloadOffset, mqttOffset]

/-- `TcpFlags()` is the low 12 bits of the word that starts with the data offset (R73). -/
theorem State.tcpFlags_eq_flagField : s.tcpFlags = (flagField s).toNat := by
  rw [State.tcpFlags, State.l4Base_eq_payloadOffset, State.memRead_two_eq_shortAt, flagField,
    BitVec.toNat_setWidth]

/-! ### The shared conditions (R151) -/

/-- The header sum cannot wrap, so its fold is zero exactly when the exact sum is a positive multiple of
0xFFFF. -/
theorem State.ipOk_iff : s.ipOk = true ↔ ipHeaderValid s := by
  rw [State.ipOk, Bool.and_eq_true, decide_eq_true_iff, decide_eq_true_iff, fold_eq_zero, State.ipSum_toNat,
    State.ihl_eq]
  exact and_congr_left' (s.memRead_two_eq_iff 12 0x0800#16)

theorem State.macLocal_iff : s.macLocal = true ↔ forThisNode s :=
  decide_eq_true_iff.trans (s.memRead_six_eq_iff 0 s.localMac)

theorem State.lenOk_iff (least : Nat) :
    s.lenOk least = true ↔ s.ihl ≤ s.ipTotLen ∧ least ≤ s.l4Len ∧ 14 + s.ipTotLen ≤ 1522 := by
  rw [State.lenOk, Bool.and_eq_true, Bool.and_eq_true, decide_eq_true_iff, decide_eq_true_iff,
    decide_eq_true_iff, and_assoc]
  exact Iff.rfl

/-! ### The predicates (R152 to R165) -/

theorem State.isIpUnicast_iff : s.isIpUnicast = true ↔ ipHeaderValid s ∧ longAt s 30 = s.localIp := by
  rw [State.isIpUnicast, Bool.and_eq_true, decide_eq_true_iff]
  exact and_congr s.ipOk_iff (s.memRead_four_eq_iff 30 s.localIp)

theorem State.isPingRequest_iff :
    s.isPingRequest = true ↔ ipHeaderValid s ∧ s.pbAt 23 = 1#8 ∧ s.pbAt (payloadOffset s) = 8#8 := by
  rw [State.isPingRequest, State.l4Base_eq_payloadOffset, Bool.and_eq_true, Bool.and_eq_true,
    decide_eq_true_iff, decide_eq_true_iff, and_assoc]
  exact and_congr s.ipOk_iff
    (and_congr (s.memRead_one_eq_iff 23 1#8) (s.memRead_one_eq_iff (payloadOffset s) 8#8))

theorem State.arpFor_iff (operation : BitVec 16) :
    s.arpFor operation.toNat = true ↔
      shortAt s 12 = 0x0806#16 ∧ longAt s 38 = s.localIp ∧ shortAt s 20 = operation := by
  rw [State.arpFor, Bool.and_eq_true, Bool.and_eq_true, decide_eq_true_iff, decide_eq_true_iff,
    decide_eq_true_iff, and_assoc]
  exact and_congr (s.memRead_two_eq_iff 12 0x0806#16)
    (and_congr (s.memRead_four_eq_iff 38 s.localIp) (s.memRead_two_eq_iff 20 operation))

/-- The pseudo-header's protocol number is positive, so the datagram's fold is zero exactly when the exact sum
is a multiple of 0xFFFF. -/
theorem State.fold_l4Sum_eq_zero_iff {proto : Nat} (hpos : 0 < proto) (hproto : proto < 65536)
    (hlen : s.l4Len < 65536) :
    fold (s.l4Sum proto) = 0 ↔
      (exactWordSum s.pbAt 26 8 + proto + s.l4Len + exactWordSum s.pbAt s.l4Base s.l4Len) % 65535 = 0 := by
  rw [fold_eq_zero, s.l4Sum_toNat proto hproto hlen]
  exact and_iff_right (by omega)

theorem State.isUdp_iff :
    s.isUdp = true ↔
      ipHeaderValid s ∧ s.pbAt 23 = 17#8 ∧ s.ihl + 8 ≤ s.ipTotLen ∧ 14 + s.ipTotLen ≤ 1522
        ∧ (exactWordSum s.pbAt 26 8 + 17 + s.l4Len + exactWordSum s.pbAt s.l4Base s.l4Len) % 65535 = 0 := by
  have hproto : s.ipProto = protoUdp ↔ s.pbAt 23 = 17#8 := s.memRead_one_eq_iff 23 17#8
  have hlen : s.lenOk 8 = true ↔ s.ihl + 8 ≤ s.ipTotLen ∧ 14 + s.ipTotLen ≤ 1522 := by
    rw [State.lenOk_iff, State.l4Len]
    omega
  rw [State.isUdp, Bool.and_eq_true, Bool.and_eq_true, Bool.and_eq_true, decide_eq_true_iff, decide_eq_true_iff,
    s.ipOk_iff, hproto, hlen, and_assoc, and_assoc, and_assoc]
  refine and_congr_right' (and_congr_right' (and_congr_right fun _ => and_congr_right fun hinside => ?_))
  exact s.fold_l4Sum_eq_zero_iff (proto := 17) (by decide) (by decide) (by unfold State.l4Len; omega)

theorem State.isTcp_iff : s.isTcp = true ↔ s.pbAt 23 = 6#8 :=
  decide_eq_true_iff.trans (s.memRead_one_eq_iff 23 6#8)

theorem State.tcpFlags_mem_iff (values : List (BitVec 12)) :
    s.tcpFlags ∈ values.map BitVec.toNat ↔ flagField s ∈ values := by
  rw [State.tcpFlags_eq_flagField]
  exact List.mem_map_of_injective fun _ _ => BitVec.eq_of_toNat_eq

/-- The whole 12-bit field has to be one of the values. -/
theorem State.tcpWithFlags_iff (values : List (BitVec 12)) :
    s.tcpWithFlags (values.map BitVec.toNat) = true ↔
      s.pbAt 23 = 6#8 ∧ forThisNode s ∧ flagField s ∈ values := by
  rw [State.tcpWithFlags, Bool.and_eq_true, Bool.and_eq_true, decide_eq_true_iff, decide_eq_true_iff, and_assoc]
  exact and_congr (s.memRead_one_eq_iff 23 6#8) (and_congr s.macLocal_iff (s.tcpFlags_mem_iff values))

theorem State.isTcpAck_iff :
    s.isTcpAck = true ↔ s.pbAt 23 = 6#8 ∧ forThisNode s
      ∧ (flagField s = 0x012#12 ∨ flagField s = 0x010#12 ∨ flagField s = 0x018#12) :=
  (s.tcpWithFlags_iff [0x012#12, 0x010#12, 0x018#12]).trans
    (by simp only [List.mem_cons, List.not_mem_nil, or_false])

theorem State.isTcpFinAck_iff :
    s.isTcpFinAck = true ↔ s.pbAt 23 = 6#8 ∧ forThisNode s ∧ flagField s = 0x011#12 :=
  (s.tcpWithFlags_iff [0x011#12]).trans (by rw [List.mem_singleton])

theorem State.isTcpResetAck_iff :
    s.isTcpResetAck = true ↔ s.pbAt 23 = 6#8 ∧ forThisNode s ∧ flagField s = 0x014#12 :=
  (s.tcpWithFlags_iff [0x014#12]).trans (by rw [List.mem_singleton])

theorem State.mqttType_iff (first : Byte) :
    s.mqttType first.toNat = true ↔ forThisNode s ∧ s.pbAt (mqttOffset s) = first := by
  rw [State.mqttType, Bool.and_eq_true, decide_eq_true_iff, State.mqBase_eq_mqttOffset]
  exact and_congr s.macLocal_iff (s.memRead_one_eq_iff (mqttOffset s) first)

theorem State.isMqttConnectAck_iff :
    s.isMqttConnectAck = true ↔
      forThisNode s ∧ s.pbAt (mqttOffset s) = 0x20#8 ∧ s.pbAt (mqttOffset s + 2) = 0#8 := by
  rw [State.isMqttConnectAck, State.mqBase_eq_mqttOffset, Bool.and_eq_true, decide_eq_true_iff, ← and_assoc]
  exact and_congr (s.mqttType_iff 0x20#8) (s.memRead_one_eq_iff (mqttOffset s + 2) 0#8)

end

/-! ### What a classifier command leaves (R150, R166) -/

theorem OnlyRegs.trans {l m : List Reg} {s t u : State} (h : OnlyRegs l s t) (k : OnlyRegs m t u) :
    OnlyRegs (l ++ m) s u where
  regs := (h.regs.mono (List.subset_append_left l m)).trans (k.regs.mono (List.subset_append_right l m))
  pb := fun a => (k.pb a).trans (h.pb a)
  psb := fun a => (k.psb a).trans (h.psb a)
  ports :=
    { params := k.ports.params.trans h.ports.params
      inbox := k.ports.inbox.trans h.ports.inbox
      txAnswers := k.ports.txAnswers.trans h.ports.txAnswers
      ovfAnswers := k.ports.ovfAnswers.trans h.ports.ovfAnswers
      draws := k.ports.draws.trans h.ports.draws
      epoch := k.ports.epoch.trans h.ports.epoch
      txLog := k.ports.txLog.trans h.ports.txLog
      responses := k.ports.responses.trans h.ports.responses }

section

variable {i : Instr} {s : State} {p : Bool} {P : Prop}

/-- A command that ends in `classify` answers the predicate it was given. -/
theorem answers_of_classify (hexec : exec i s = .next (s.classify p)) (hp : p = true ↔ P) : Answers i s P := by
  refine ⟨_, hexec, State.classify_err s p, ?_, ?_, s.withMatch_only p⟩
  · rw [State.classify_flags]
    exact hp
  · rw [State.classify_flags]

theorem State.recordLength_flags : (s.recordLength p).flags = s.flags := by
  cases p <;> rfl

theorem State.recordLength_of_match (h : p = true) :
    (s.recordLength p).mqLen = s.pbAt (mqttOffset s + 1)
      ∧ (s.recordLength p).result = (s.pbAt (mqttOffset s + 1)).setWidth 48 := by
  rw [State.recordLength, if_pos h, State.mqBase_eq_mqttOffset, State.withResult_result, BitVec.ofNat_toNat]
  exact ⟨rfl, rfl⟩

theorem State.recordLength_of_no_match (h : ¬ p = true) : s.recordLength p = s := if_neg h

theorem State.recordLength_only : OnlyRegs [.mqLen, .result] s (s.recordLength p) := by
  cases p with
  | false => exact ⟨.refl _ s, fun _ => rfl, fun _ => rfl, .refl s⟩
  | true =>
    refine ⟨fun r hr => ?_, fun _ => rfl, fun _ => rfl, ⟨rfl, rfl, rfl, rfl, rfl, rfl, rfl, rfl⟩⟩
    cases r with
    | mqLen | result => simp at hr
    | _ => rfl

/-- A command that records the length and then ends in `classify` answers the predicate, and writes `MQ_LEN` and
`RESULT` on a match only. -/
theorem answersWithLength_of_recordLength (hexec : exec i s = .next ((s.recordLength p).classify p))
    (hp : p = true ↔ P) : AnswersWithLength i s P := by
  have honly : OnlyRegs [.flags, .err, .mqLen, .result] s ((s.recordLength p).classify p) :=
    (State.recordLength_only.trans (State.withMatch_only _ p)).mono (by decide)
  refine ⟨_, hexec, State.classify_err _ p, ?_, ?_, fun hmatch => ?_, fun hno => ?_, honly⟩
  · rw [State.classify_flags]
    exact hp
  · rw [State.classify_flags, State.recordLength_flags]
  · rw [State.classify_mqLen, State.classify_result]
    exact State.recordLength_of_match (hp.mpr hmatch)
  · rw [State.recordLength_of_no_match (fun h => hno (hp.mp h)), State.classify_mqLen, State.classify_result]
    exact ⟨rfl, rfl⟩

end

/-! ### The statements -/

/-- Settles O38: the three predicates are the shared header check with the fields it is joined to. -/
theorem ipPredicatesAnswerTheHeader : Obligations.IpPredicatesAnswerTheHeader :=
  ⟨⟨rfl, rfl, rfl⟩, fun s =>
    ⟨answers_of_classify rfl s.ipOk_iff, answers_of_classify rfl s.isIpUnicast_iff,
      answers_of_classify rfl s.isPingRequest_iff⟩⟩

/-- Settles O39: both are one predicate over the operation. -/
theorem arpPredicatesAnswerTheMessage : Obligations.ArpPredicatesAnswerTheMessage :=
  ⟨⟨rfl, rfl⟩, fun s =>
    ⟨answers_of_classify rfl (s.arpFor_iff 1#16), answers_of_classify rfl (s.arpFor_iff 2#16)⟩⟩

/-- Settles O40: `isUdp_iff` with the lengths and the offset written out over bytes. -/
theorem udpPredicateAnswersTheChecksum : Obligations.UdpPredicateAnswersTheChecksum := by
  refine ⟨rfl, fun s => answers_of_classify rfl ?_⟩
  have htotal : s.ipTotLen = (shortAt s 16).toNat := s.memRead_two_eq_shortAt 16
  have h := s.isUdp_iff
  rwa [State.l4Len, s.l4Base_eq_payloadOffset, s.ihl_eq, htotal] at h

/-- Settles O41: the three variants are one predicate over the list of accepted flag fields. -/
theorem tcpPredicatesAnswerTheFlagField : Obligations.TcpPredicatesAnswerTheFlagField :=
  ⟨⟨rfl, rfl, rfl, rfl⟩, fun s =>
    ⟨answers_of_classify rfl s.isTcp_iff, answers_of_classify rfl s.isTcpAck_iff,
      answers_of_classify rfl s.isTcpFinAck_iff, answers_of_classify rfl s.isTcpResetAck_iff⟩⟩

/-- Settles O42: the four are one predicate over the packet type; three of them record the length first. -/
theorem mqttPredicatesAnswerTheFirstByte : Obligations.MqttPredicatesAnswerTheFirstByte :=
  ⟨⟨rfl, rfl, rfl, rfl⟩, fun s =>
    ⟨answers_of_classify rfl s.isMqttConnectAck_iff,
      answersWithLength_of_recordLength rfl (s.mqttType_iff 0x90#8),
      answersWithLength_of_recordLength rfl (s.mqttType_iff 0xB0#8),
      answersWithLength_of_recordLength rfl (s.mqttType_iff 0x30#8)⟩⟩

end Sys2Proof.Machine
end

/-! PROOFS. The two ARP builders (42_builders.md R182, R183). Each writes its fields in rising order, none on
another's bytes, so after the last write every field still reads what was written into it. -/

namespace Sys2Proof

/-! ### The encoding of format `A` -/

theorem Format.assemble_a (k : BitVec 32 → Instr) (op : Byte) (ip : BitVec 32) :
    (Format.a k).assemble (op :: beBytes 4 ip.toNat) = k ip := by
  have hip : operand (op :: beBytes 4 ip.toNat) 1 4 = ip.toNat := by
    have hat := operand_at [op] (beBytes 4 ip.toNat) [] 1 4 rfl (Machine.beBytes_length 4 _)
    rw [List.append_nil, beNat_beBytes_of_lt 4 _ ip.isLt] at hat
    exact hat
  rw [Format.assemble, hip, BitVec.ofNat_toNat, BitVec.setWidth_eq]

theorem decode_buildArpRequest (ip : BitVec 32) :
    decode (0x31 :: beBytes 4 ip.toNat) = .command (.buildArpRequest ip) := by
  have hfmt : formatOf 0x31 = some (.a .buildArpRequest) := rfl
  rw [decode_cons_of_length hfmt (by simp [Format.fixedLength])
    (by simp [Format.requiredLength, Format.fixedLength]), Format.assemble_a]

end Sys2Proof

namespace Sys2Proof.Machine

/-! ### Writes in rising order -/

/-- Each write ends where a later one starts, or before. -/
def Rising (ws : List (Nat × Nat × Nat)) : Prop := ws.Pairwise (fun v w => v.1 + v.2.1 ≤ w.1)

section

variable {ws : List (Nat × Nat × Nat)} {a n v : Nat}

/-- A field that no write of a sequence touches (R64). -/
theorem State.memRead_memWrites_of_disjoint (s : State) (h : ∀ w ∈ ws, a + n ≤ w.1 ∨ w.1 + w.2.1 ≤ a) :
    (s.memWrites ws).memRead a n = s.memRead a n :=
  State.memRead_congr _ _ _ _ fun k hak hkn =>
    s.pbAt_memWrites_of_outside ws k fun w hw => (h w hw).imp hkn.trans_le hak.trans'

/-- In a rising sequence no write disturbs another's field (R63, R64). -/
theorem Rising.memRead_memWrites {s : State} (hrising : Rising ws) (hmem : (a, n, v) ∈ ws) (hfits : v < 256 ^ n) :
    (s.memWrites ws).memRead a n = v := by
  induction ws generalizing s with
  | nil => exact absurd hmem List.not_mem_nil
  | cons w ws ih =>
    obtain ⟨hfirst, hrest⟩ := List.pairwise_cons.mp hrising
    rw [State.memWrites_cons]
    cases hmem with
    | head =>
      rw [State.memRead_memWrites_of_disjoint _ (fun u hu => .inl (hfirst u hu)), State.memRead_memWrite_same,
        Nat.mod_eq_of_lt hfits]
    | tail _ hlater => exact ih hrest hlater

end

section

variable {s : State} {ws : List (Nat × Nat × Nat)} {a : Nat}

theorem Rising.pbAt_memWrites (hrising : Rising ws) {v : Byte} (hmem : (a, 1, v.toNat) ∈ ws) :
    (s.memWrites ws).pbAt a = v :=
  (State.memRead_one_eq_iff _ a v).mp (hrising.memRead_memWrites hmem v.isLt)

theorem Rising.shortAt_memWrites (hrising : Rising ws) {v : BitVec 16} (hmem : (a, 2, v.toNat) ∈ ws) :
    shortAt (s.memWrites ws) a = v :=
  (State.memRead_two_eq_iff _ a v).mp (hrising.memRead_memWrites hmem v.isLt)

theorem Rising.longAt_memWrites (hrising : Rising ws) {v : BitVec 32} (hmem : (a, 4, v.toNat) ∈ ws) :
    longAt (s.memWrites ws) a = v :=
  (State.memRead_four_eq_iff _ a v).mp (hrising.memRead_memWrites hmem v.isLt)

theorem Rising.macAt_memWrites (hrising : Rising ws) {v : BitVec 48} (hmem : (a, 6, v.toNat) ∈ ws) :
    macAt (s.memWrites ws) a = v :=
  (State.memRead_six_eq_iff _ a v).mp (hrising.memRead_memWrites hmem v.isLt)

end

/-! ### `Transmit` changes no word of `PB` -/

section

variable (s : State) (n a : Nat)

@[simp] theorem State.shortAt_transmit : shortAt (s.transmit n) a = shortAt s a := by rfl
@[simp] theorem State.longAt_transmit : longAt (s.transmit n) a = longAt s a := by rfl
@[simp] theorem State.macAt_transmit : macAt (s.transmit n) a = macAt s a := by rfl

end

theorem PbKeptOutside.transmit {s t : State} {a n : Nat} (h : PbKeptOutside a n s t) (m : Nat) :
    PbKeptOutside a n s (t.transmit m) :=
  fun k hk => (t.pbAt_transmit k m).trans (h k hk)

/-! ### `BuildArpReply` -/

section

variable (s : State)

/-- The fields of the reply, each as a word of its width (R182). -/
def State.arpReplyWrites : List (Nat × Nat × Nat) :=
  [(0, 6, (macAt s 22).toNat), (6, 6, s.localMac.toNat),
   (20, 2, (2#16).toNat), (22, 6, s.localMac.toNat), (28, 4, s.localIp.toNat),
   (32, 6, (macAt s 22).toNat), (38, 4, (longAt s 28).toNat)]

theorem State.arpReplyFrame_eq : s.arpReplyFrame = s.memWrites s.arpReplyWrites := by
  rw [State.arpReplyFrame, State.memRead_six_eq_macAt, State.memRead_four_eq_longAt]
  rfl

theorem State.arpReplyWrites_rising : Rising s.arpReplyWrites := by
  simp [Rising, State.arpReplyWrites]

/-- Bytes 12 to 19 carry the request's frame type and ARP constants into the reply (R182). -/
theorem State.pbAt_arpReply_of_outside {k : Nat} (hk : 12 ≤ k ∧ k < 20 ∨ 42 ≤ k) :
    (s.memWrites s.arpReplyWrites).pbAt k = s.pbAt k :=
  s.pbAt_memWrites_of_outside _ k (by simp [State.arpReplyWrites]; omega)

theorem exec_buildArpReply :
    exec .buildArpReply s = .next ((s.memWrites s.arpReplyWrites).transmit 42) := by
  rw [← State.arpReplyFrame_eq]
  rfl

end

/-- Settles O45: the words of the reply are the fields of one rising sequence of writes, the request's sender
read before the first of them. -/
theorem arpReplyAnswersTheSender : Obligations.ArpReplyAnswersTheSender := by
  refine ⟨rfl, fun s => ⟨_, exec_buildArpReply s, ?_⟩⟩
  have hfields := s.arpReplyWrites_rising
  have hsent := (s.memWrites_pbOnly s.arpReplyWrites).sent 42
  simp only [State.macAt_transmit, State.longAt_transmit, State.shortAt_transmit, State.pbAt_transmit]
  refine ⟨hfields.macAt_memWrites ?_, hfields.macAt_memWrites ?_, hfields.shortAt_memWrites ?_,
    hfields.macAt_memWrites ?_, hfields.longAt_memWrites ?_, hfields.macAt_memWrites ?_, hfields.longAt_memWrites ?_,
    fun k => s.pbAt_arpReply_of_outside, hsent⟩
  -- each word stands in the list of writes, at its offset and width
  all_goals simp [State.arpReplyWrites]

/-! ### `BuildArpRequest` -/

section

variable (s : State) (ip : BitVec 32)

/-- The fields of the request, each as a word of its width (R183). -/
def State.arpRequestWrites : List (Nat × Nat × Nat) :=
  [(0, 6, (0xFFFFFFFFFFFF#48).toNat), (6, 6, s.localMac.toNat), (12, 2, (0x0806#16).toNat),
   (14, 2, (1#16).toNat), (16, 2, (0x0800#16).toNat), (18, 1, (6#8).toNat), (19, 1, (4#8).toNat),
   (20, 2, (1#16).toNat), (22, 6, s.localMac.toNat), (28, 4, s.localIp.toNat), (32, 6, (0#48).toNat),
   (38, 4, ip.toNat)]

theorem State.arpRequestWrites_rising : Rising (s.arpRequestWrites ip) := by
  simp [Rising, State.arpRequestWrites]

theorem State.pbKeptOutside_arpRequest : PbKeptOutside 0 42 s (s.memWrites (s.arpRequestWrites ip)) :=
  fun k hk => s.pbAt_memWrites_of_outside _ k (by simp [State.arpRequestWrites]; omega)

theorem exec_buildArpRequest :
    exec (.buildArpRequest ip) s = .next ((s.memWrites (s.arpRequestWrites ip)).transmit 42) := rfl

end

/-- Settles O46: the words of the request are the fields of one rising sequence of writes, and no value written
is read from the buffer. -/
theorem arpRequestIsBuiltFromNothing : Obligations.ArpRequestIsBuiltFromNothing := by
  refine ⟨decode_buildArpRequest, fun s ip => ⟨_, exec_buildArpRequest s ip, ?_⟩⟩
  have hfields := s.arpRequestWrites_rising ip
  have hkept := (s.pbKeptOutside_arpRequest ip).transmit 42
  have hsent := (s.memWrites_pbOnly (s.arpRequestWrites ip)).sent 42
  simp only [State.macAt_transmit, State.longAt_transmit, State.shortAt_transmit, State.pbAt_transmit]
  refine ⟨hfields.macAt_memWrites ?_, hfields.macAt_memWrites ?_, hfields.shortAt_memWrites ?_,
    hfields.shortAt_memWrites ?_, hfields.shortAt_memWrites ?_, hfields.pbAt_memWrites ?_, hfields.pbAt_memWrites ?_,
    hfields.shortAt_memWrites ?_, hfields.macAt_memWrites ?_, hfields.longAt_memWrites ?_, hfields.macAt_memWrites ?_,
    hfields.longAt_memWrites ?_, hkept, hsent⟩
  -- each word stands in the list of writes, at its offset and width
  all_goals simp [State.arpRequestWrites]

end Sys2Proof.Machine

/-! PROOFS. The MQTT payload constructors (43_mqtt_payload.md R210 to R215): how the decoder reads the formats
`S` and `SS`, what a constructor leaves, and the packets that fit a remaining length of one byte. -/

namespace Sys2Proof

/-! ### The encodings of formats `S` and `SS` -/

section

variable {op : Byte} {topic data : List Byte}

/-- The length field of format `S`: no byte stands behind the string (R102). -/
theorem operand_lengthPrefixed_last (op : Byte) (hdata : data.length < 65536) :
    operand (op :: lengthPrefixed data) 1 2 = data.length := by
  have hlen := operand_lengthPrefixed op data [] hdata
  rwa [List.append_nil] at hlen

theorem Format.assemble_s (k : List Byte → Instr) (hdata : data.length < 65536) :
    (Format.s k).assemble (op :: lengthPrefixed data) = k data := by
  rw [Format.assemble, operand_lengthPrefixed_last op hdata]
  simp [lengthPrefixed, beBytes]

theorem decode_of_format_s {k : List Byte → Instr} (hfmt : formatOf op = some (.s k))
    (hdata : data.length < 65536) : decode (op :: lengthPrefixed data) = .command (k data) := by
  have hrequired : (op :: lengthPrefixed data).length
      = (Format.s k).requiredLength (op :: lengthPrefixed data) := by
    rw [Format.requiredLength, operand_lengthPrefixed_last op hdata, List.length_cons, lengthPrefixed_length]
    omega
  rw [decode_cons_of_length hfmt (by simp [Format.fixedLength, lengthPrefixed]) hrequired,
    Format.assemble_s k hdata]

/-- The second length field of format `SS` stands behind the first string (R102). -/
theorem operand_second_lengthPrefixed (hdata : data.length < 65536) :
    operand (op :: (lengthPrefixed topic ++ lengthPrefixed data)) (3 + topic.length) 2 = data.length := by
  have hbytes : op :: (lengthPrefixed topic ++ lengthPrefixed data)
      = (op :: lengthPrefixed topic) ++ beBytes 2 data.length ++ data := by
    simp [lengthPrefixed]
  rw [hbytes, operand_at _ _ _ _ _ (by rw [List.length_cons, lengthPrefixed_length]; omega)
    (Machine.beBytes_length _ _), beNat_beBytes_of_lt 2 _ hdata]

theorem Format.assemble_ss (k : List Byte → List Byte → Instr) (htopic : topic.length < 65536)
    (hdata : data.length < 65536) :
    (Format.ss k).assemble (op :: (lengthPrefixed topic ++ lengthPrefixed data)) = k topic data := by
  have hbehind : (op :: (lengthPrefixed topic ++ lengthPrefixed data)).drop (5 + topic.length) = data := by
    have hbytes : op :: (lengthPrefixed topic ++ lengthPrefixed data)
        = (op :: (lengthPrefixed topic ++ beBytes 2 data.length)) ++ data := by
      simp [lengthPrefixed]
    rw [hbytes, List.drop_left' (by simp [lengthPrefixed]; omega)]
  rw [Format.assemble, operand_lengthPrefixed op topic _ htopic, operand_second_lengthPrefixed hdata, hbehind,
    List.take_length]
  simp [lengthPrefixed, beBytes]

theorem decode_of_format_ss {k : List Byte → List Byte → Instr} (hfmt : formatOf op = some (.ss k))
    (htopic : topic.length < 65536) (hdata : data.length < 65536) :
    decode (op :: (lengthPrefixed topic ++ lengthPrefixed data)) = .command (k topic data) := by
  have hrequired : (op :: (lengthPrefixed topic ++ lengthPrefixed data)).length
      = (Format.ss k).requiredLength (op :: (lengthPrefixed topic ++ lengthPrefixed data)) := by
    rw [Format.requiredLength, operand_lengthPrefixed op topic _ htopic, operand_second_lengthPrefixed hdata,
      List.length_cons, List.length_append, lengthPrefixed_length, lengthPrefixed_length]
    omega
  rw [decode_cons_of_length hfmt (by simp [Format.fixedLength, lengthPrefixed]; omega) hrequired,
    Format.assemble_ss k htopic hdata]

end

end Sys2Proof

namespace Sys2Proof.Machine

/-! ### What a constructor leaves -/

section

variable {s : State} {i : Instr} {rl : Nat} {bs : List Byte}

/-- The count is in `PSB_LEN` and `RESULT` as long as `PSB_LEN` can hold it (R210). -/
theorem State.construct_constructed (s : State) (hbs : bs.length < 65536) : Constructed bs s (s.construct bs) := by
  obtain ⟨hbytes, hbehind, hregs, hpb, hports⟩ := s.construct_spec bs
  have hpsbLen : (s.construct bs).psbLen.toNat = bs.length := by
    rw [State.construct_psbLen, BitVec.toNat_ofNat, Nat.mod_eq_of_lt hbs]
  have hresult : (s.construct bs).result.toNat = bs.length := by
    rw [State.construct_result, BitVec.toNat_ofNat, Nat.mod_eq_of_lt (by omega)]
  exact ⟨hbytes, hbehind, hpsbLen, hresult, s.construct_err bs, hregs, hpb, hports⟩

/-- Up to a remaining length of 127 the packet is constructed (R210). -/
theorem constructed_of_constructWithin (hexec : exec i s = .next (s.constructWithin rl bs)) (hrl : rl ≤ 127)
    (hbs : bs.length < 65536) : ∃ t, exec i s = .next t ∧ Constructed bs s t := by
  rw [State.constructWithin, if_neg (Nat.not_lt.mpr hrl)] at hexec
  exact ⟨_, hexec, s.construct_constructed hbs⟩

/-- Above a remaining length of 127 the command faults before any write (R210). -/
theorem faulted_of_constructWithin (hexec : exec i s = .next (s.constructWithin rl bs)) (hrl : 127 < rl) :
    ∃ t, exec i s = .next t ∧ Faulted .badOperand s t := by
  rw [State.constructWithin, if_pos hrl] at hexec
  exact ⟨_, hexec, s.raise_faulted .badOperand⟩

end

/-- Settles O53: the two packets are constructed whatever the state is. -/
theorem connectAndDisconnectPackets : Obligations.ConnectAndDisconnectPackets :=
  ⟨⟨rfl, rfl⟩, fun s =>
    ⟨⟨_, rfl, s.construct_constructed (bs := connectPacket s.params) (by simp [connectPacket])⟩,
      ⟨_, rfl, s.construct_constructed (bs := [0xE0, 0x00]) (by simp)⟩⟩⟩

/-! ### The packets of one length byte -/

section

variable {topic data : List Byte}

/-- A number below 256 leaves the high byte of its field zero (R60). -/
theorem beBytes_two_of_lt {v : Nat} (h : v < 256) : beBytes 2 v = [0x00, BitVec.ofNat 8 v] := by
  simp [beBytes, Nat.div_eq_of_lt h]

theorem topicPacket_of_short (first : Byte) (h : topic.length ≤ 122) :
    topicPacket first topic
      = [first, BitVec.ofNat 8 (topic.length + 5), 0x00, 0x0C, 0x00, BitVec.ofNat 8 topic.length]
        ++ topic ++ [0x00] := by
  rw [topicPacket, beBytes_two_of_lt (by omega)]
  rfl

theorem publishPacket_of_short (h : topic.length + data.length ≤ 125) :
    publishPacket topic data
      = [0x30, BitVec.ofNat 8 (topic.length + data.length + 2), 0x00, BitVec.ofNat 8 topic.length]
        ++ topic ++ data := by
  rw [publishPacket, beBytes_two_of_lt (by omega), Nat.add_assoc, Nat.add_comm 2]
  rfl

variable {s : State} {i : Instr} {first : Byte}

/-- `MQ.SUBSCRIBE` and `MQ.UNSUBSCRIBE` with a topic that fits (R212, R213). -/
theorem constructed_of_short_topic
    (hexec : exec i s = .next (s.constructWithin (topic.length + 5) (topicPacket first topic)))
    (h : topic.length ≤ 122) :
    ∃ t, exec i s = .next t ∧ Constructed
      ([first, BitVec.ofNat 8 (topic.length + 5), 0x00, 0x0C, 0x00, BitVec.ofNat 8 topic.length]
        ++ topic ++ [0x00]) s t := by
  rw [topicPacket_of_short first h] at hexec
  exact constructed_of_constructWithin hexec (by omega) (by simp; omega)

/-- `MQ.PUBLISH` with strings that fit (R214). -/
theorem constructed_of_short_publish (s : State) (h : topic.length + data.length ≤ 125) :
    ∃ t, exec (.mqPublish topic data) s = .next t ∧ Constructed
      ([0x30, BitVec.ofNat 8 (topic.length + data.length + 2), 0x00, BitVec.ofNat 8 topic.length]
        ++ topic ++ data) s t := by
  rw [← publishPacket_of_short h]
  exact constructed_of_constructWithin rfl (by omega) (by simp [publishPacket]; omega)

end

/-- Settles O54: a topic of 122 bytes, or a topic and data of 125 together, make a remaining length of 127; up
to it the high byte of every length field is zero. -/
theorem topicPacketsUpToTheShortLength : Obligations.TopicPacketsUpToTheShortLength := by
  refine ⟨fun topic data htopic hdata => ⟨decode_of_format_s rfl htopic, decode_of_format_s rfl htopic,
    decode_of_format_ss rfl htopic hdata⟩, fun s topic data => ⟨fun h => ?_, fun h => ?_, fun h => ?_, fun h => ?_⟩⟩
  · exact ⟨constructed_of_short_topic rfl h, constructed_of_short_topic rfl h⟩
  · exact ⟨faulted_of_constructWithin rfl (by omega), faulted_of_constructWithin rfl (by omega)⟩
  · exact constructed_of_short_publish s h
  · exact faulted_of_constructWithin rfl (by omega)

end Sys2Proof.Machine

/-! PROOFS. The Connection State Machine (44_fsm.md R230 to R238): what each row of the table leaves, and which
command takes the machine from which state to which. -/

namespace Sys2Proof.Machine

/-! ### `FSM.STEP` row by row (R232) -/

section

variable {s : State}

theorem exec_fsmStep_of_idle (h : s.fsm = .idle) : exec .fsmStep s = .next s.stay := by
  rw [exec, execFsmStep, h]

theorem exec_fsmStep_of_sendArpRequest (h : s.fsm = .sendArpRequest) :
    exec .fsmStep s = .next s.armSendArpRequest := by
  rw [exec, execFsmStep, h]

theorem exec_fsmStep_of_waitArpResponse (h : s.fsm = .waitArpResponse) :
    exec .fsmStep s = .next s.armWaitArpResponse := by
  rw [exec, execFsmStep, h]

theorem exec_fsmStep_of_sendTcpSyn (h : s.fsm = .sendTcpSyn) : exec .fsmStep s = .next s.armSendTcpSyn := by
  rw [exec, execFsmStep, h]

theorem exec_fsmStep_of_waitTcpSynAck (h : s.fsm = .waitTcpSynAck) :
    exec .fsmStep s = .next s.armWaitTcpSynAck := by
  rw [exec, execFsmStep, h]

theorem exec_fsmStep_of_sendTcpAck (h : s.fsm = .sendTcpAck) : exec .fsmStep s = .next s.armSendTcpAck := by
  rw [exec, execFsmStep, h]

theorem exec_fsmStep_of_tcpConnectionActive (h : s.fsm = .tcpConnectionActive) :
    exec .fsmStep s = .next s.stay := by
  rw [exec, execFsmStep, h]

end

/-! ### A transition taken, and none -/

theorem fsmStays_of_stay {s : State} (h : exec .fsmStep s = .next s.stay) : FsmStays s :=
  ⟨_, h, s.stay_flags, s.stay_err, s.withMatch_only false⟩

/-- A transition that sends nothing writes `FSM_STATE`, `MATCH` and `ERR` (R230, R232). -/
theorem State.advance_only (s : State) (q : FsmState) :
    OnlyRegs [.fsmState, .flags, .err] s (s.advance q).complete where
  regs := fun r hr => by
    cases r with
    | fsmState | flags | err => simp at hr
    | _ => rfl
  pb := fun _ => rfl
  psb := fun _ => rfl
  ports := ⟨rfl, rfl, rfl, rfl, rfl, rfl, rfl, rfl⟩

theorem State.advance_complete_fsm (s : State) (q : FsmState) : (s.advance q).complete.fsm = q := by
  rw [State.complete_fsm, State.advance_fsm]

/-- What a waiting row learns before its transition stands beside what the transition writes. -/
theorem OnlyRegs.advance_complete {l : List Reg} {s t : State} (h : OnlyRegs l s t) (q : FsmState) :
    OnlyRegs (l ++ [.fsmState, .flags, .err]) s (t.advance q).complete :=
  h.trans (t.advance_only q)

/-! ### `FSM.CONNECT` -/

section

variable {s : State}

theorem exec_fsmConnect_of_idle (h : s.fsm = .idle) :
    exec .fsmConnect s = .next (s.advance .sendArpRequest).complete :=
  congrArg Host.Outcome.next (if_pos h)

theorem exec_fsmConnect_of_not_idle (h : s.fsm ≠ .idle) : exec .fsmConnect s = .next s.stay :=
  congrArg Host.Outcome.next (if_neg h)

end

/-- Settles O55: the trigger is a transition in `Idle` and no transition elsewhere. -/
theorem fsmConnectTriggersOnlyInIdle : Obligations.FsmConnectTriggersOnlyInIdle := by
  refine ⟨rfl, fun s => ?_⟩
  by_cases hidle : s.fsm = .idle
  · refine ⟨_, exec_fsmConnect_of_idle hidle, ?_, ?_, State.complete_err _, s.advance_only .sendArpRequest⟩
    · rw [State.advance_complete_fsm, if_pos hidle]
    · rw [State.complete_flags, State.advance_flags, decide_eq_true hidle]
  · refine ⟨_, exec_fsmConnect_of_not_idle hidle, ?_, ?_, s.stay_err, (s.withMatch_only false).mono (by decide)⟩
    · rw [State.stay_fsm, if_neg hidle]
    · rw [State.stay_flags, decide_eq_false hidle]

/-! ### Which command moves `FSM_STATE` -/

theorem State.PbOnly.fsm {s t : State} (h : s.PbOnly t) : t.fsm = s.fsm := by
  rw [h]

/-- A frame built in `PB` and sent leaves `FSM_STATE` (42_builders.md R180). -/
theorem State.PbOnly.transmit_fsm {s t : State} (h : s.PbOnly t) (n : Nat) : (t.transmit n).fsm = s.fsm :=
  (t.transmit_fsm n).trans h.fsm

section

variable (s : State)

@[simp] theorem State.writeReg_fsm (r : Reg) (val : BitVec 48) : (s.writeReg r val).fsm = s.fsm := by
  cases r <;> rfl

@[simp] theorem State.recordLength_fsm (p : Bool) : (s.recordLength p).fsm = s.fsm := by
  cases p <;> rfl

@[simp] theorem State.constructWithin_fsm (rl : Nat) (bs : List Byte) : (s.constructWithin rl bs).fsm = s.fsm := by
  unfold State.constructWithin
  split <;> simp

@[simp] theorem State.sendArpRequest_fsm (ip : BitVec 32) : (s.sendArpRequest ip).fsm = s.fsm :=
  (s.arpRequestFrame_pbOnly ip).transmit_fsm _

@[simp] theorem State.sendTcpSegment_fsm (f : Nat) : (s.sendTcpSegment f).fsm = s.fsm :=
  (s.tcpFrame_pbOnly f).transmit_fsm _

end

/-- The state machine is moved by its own two commands only (R230). -/
theorem exec_fsm_of_ne {i : Instr} {s t : State} (hconnect : i ≠ .fsmConnect) (hstep : i ≠ .fsmStep)
    (h : exec i s = .next t) : t.fsm = s.fsm := by
  cases i with
  | fsmConnect => exact absurd rfl hconnect
  | fsmStep => exact absurd rfl hstep
  | ctxLoad | rxOvf | fold | ckIp | isIp | isIpUnicast | isArpRequest | isArpReply | isPingRequest | isUdp | isTcp
  | isTcpAck | isTcpFinAck | isTcpResetAck | isMqttConnectAck | isMqttSubAck | isMqttUnSubAck | isMqttPublish
  | mqConnect | mqSubscribe topic | mqUnsubscribe topic | mqPublish topic data | mqDisconnect
  | buildArpRequest ip =>
    obtain rfl := Host.Outcome.next.inj h
    simp
  | rd reg | wr reg val | ipvalid reg | pbRd off | pbWr off byte | psbRd off | rxLoad data | psbLoad data
  | acc off cnt | ckIcmp | ckUdp | ckTcp | buildTcpSegment flags =>
    obtain rfl := Host.Outcome.next.inj h
    split <;> simp
  | buildArpReply =>
    obtain rfl := Host.Outcome.next.inj h
    exact s.arpReplyFrame_pbOnly.transmit_fsm _
  | buildIcmpEchoReply =>
    obtain rfl := Host.Outcome.next.inj h
    split
    · rfl
    · split
      · rfl
      · exact s.icmpReplyFrame_pbOnly.transmit_fsm _
  | buildUdpReply =>
    obtain rfl := Host.Outcome.next.inj h
    split
    · rfl
    · split
      · rfl
      · exact (s.udpReplyFrame_pbOnly _ _).transmit_fsm _

/-- The next row of the table (R230); `FSM.STEP` has none for the first and for the last state (R238). -/
def FsmState.successor : FsmState → FsmState
  | .idle => .idle
  | .sendArpRequest => .waitArpResponse
  | .waitArpResponse => .sendTcpSyn
  | .sendTcpSyn => .waitTcpSynAck
  | .waitTcpSynAck => .sendTcpAck
  | .sendTcpAck => .tcpConnectionActive
  | .tcpConnectionActive => .tcpConnectionActive

theorem FsmState.successor_eq_idle_iff (q : FsmState) : q.successor = .idle ↔ q = .idle := by
  cases q <;> decide

/-- A waiting row takes its transition, behind what it has learned, or none. -/
theorem State.waitingRow_fsm {c : Prop} [Decidable c] {s learned : State} {q r : FsmState} (h : s.fsm = q) :
    (if c then (learned.advance r).complete else s.stay).fsm = q
      ∨ (if c then (learned.advance r).complete else s.stay).fsm = r := by
  split
  · exact .inr (learned.advance_complete_fsm r)
  · exact .inl (s.stay_fsm.trans h)

/-- `FSM.STEP` stays or goes on to the next row (R232). -/
theorem exec_fsmStep_fsm {s t : State} (h : exec .fsmStep s = .next t) :
    t.fsm = s.fsm ∨ t.fsm = s.fsm.successor := by
  obtain rfl := Host.Outcome.next.inj h
  cases hq : s.fsm with
  | idle | tcpConnectionActive => exact .inl (s.stay_fsm.trans hq)
  | sendArpRequest | sendTcpSyn | sendTcpAck => exact .inr (State.advance_fsm _ _)
  | waitArpResponse | waitTcpSynAck => exact State.waitingRow_fsm hq

/-- All that any command can do to `FSM_STATE`. -/
theorem exec_fsm_cases {i : Instr} {s t : State} (h : exec i s = .next t) :
    t.fsm = s.fsm ∨ (i = .fsmConnect ∧ s.fsm = .idle ∧ t.fsm = .sendArpRequest)
      ∨ (i = .fsmStep ∧ t.fsm = s.fsm.successor) := by
  by_cases hconnect : i = .fsmConnect
  · subst hconnect
    obtain rfl := Host.Outcome.next.inj h
    split
    next hidle => exact .inr (.inl ⟨rfl, hidle, s.advance_complete_fsm _⟩)
    next => exact .inl s.stay_fsm
  · by_cases hstep : i = .fsmStep
    · subst hstep
      exact (exec_fsmStep_fsm h).imp_right fun hnext => .inr ⟨rfl, hnext⟩
    · exact .inl (exec_fsm_of_ne hconnect hstep h)

/-- Settles O56: the first and the last state have no next row, no row leads to `Idle`, and `FSM.CONNECT` starts
in `Idle` only. -/
theorem fsmIdleAndActiveStay : Obligations.FsmIdleAndActiveStay := by
  refine ⟨fun s hends => ?_, fun i s t hactive h => ?_, fun i s t h => ?_⟩
  · obtain hidle | hactive := hends
    · exact fsmStays_of_stay (exec_fsmStep_of_idle hidle)
    · exact fsmStays_of_stay (exec_fsmStep_of_tcpConnectionActive hactive)
  · obtain hsame | ⟨-, hidle, -⟩ | ⟨-, hnext⟩ := exec_fsm_cases h
    · exact hsame.trans hactive
    · rw [hactive] at hidle
      cases hidle
    · rw [hnext, hactive]
      rfl
  · obtain hsame | ⟨hconnect, hidle, -⟩ | ⟨-, hnext⟩ := exec_fsm_cases h
    · exact ⟨hsame.symm.trans, fun hidle hleft => absurd (hsame.trans hidle) hleft⟩
    · exact ⟨fun _ => hidle, fun _ _ => hconnect⟩
    · rw [hnext, ne_eq, s.fsm.successor_eq_idle_iff]
      exact ⟨id, fun hidle hleft => absurd hidle hleft⟩

/-! ### The waiting rows (R234, R236) -/

section

variable (s : State)

theorem State.brokerMac_only (mac : BitVec 48) : OnlyRegs [.brokerMac] s { s with brokerMac := mac } where
  regs := s.writeReg_regsKept .brokerMac mac
  pb := fun _ => rfl
  psb := fun _ => rfl
  ports := ⟨rfl, rfl, rfl, rfl, rfl, rfl, rfl, rfl⟩

theorem State.tcpNumbers_only (ack seq : BitVec 32) :
    OnlyRegs [.tcpAck, .tcpSeq] s { s with tcpAck := ack, tcpSeq := seq } where
  regs := fun r hr => by
    cases r with
    | tcpAck | tcpSeq => simp at hr
    | _ => rfl
  pb := fun _ => rfl
  psb := fun _ => rfl
  ports := ⟨rfl, rfl, rfl, rfl, rfl, rfl, rfl, rfl⟩

theorem State.ofNat_memRead_four (a : Nat) : BitVec.ofNat 32 (s.memRead a 4) = longAt s a := by
  rw [State.memRead_four_eq_longAt, BitVec.ofNat_toNat, BitVec.setWidth_eq]

theorem State.ofNat_memRead_six (a : Nat) : BitVec.ofNat 48 (s.memRead a 6) = macAt s a := by
  rw [State.memRead_six_eq_macAt, BitVec.ofNat_toNat, BitVec.setWidth_eq]

theorem State.armWaitArpResponse_of_reply (h : s.isArpReply = true) :
    s.armWaitArpResponse = ({ s with brokerMac := macAt s 22 }.advance .sendTcpSyn).complete := by
  rw [State.armWaitArpResponse, if_pos h, State.ofNat_memRead_six]

theorem State.armWaitArpResponse_of_other (h : ¬ s.isArpReply = true) : s.armWaitArpResponse = s.stay := if_neg h

theorem State.armWaitTcpSynAck_of_ack (h : (s.ipOk && s.isTcpAck) = true) :
    s.armWaitTcpSynAck = ({ s with
      tcpAck := longAt s (payloadOffset s + 4), tcpSeq := longAt s (payloadOffset s + 8) }.advance
        .sendTcpAck).complete := by
  rw [State.armWaitTcpSynAck, if_pos h, State.ofNat_memRead_four, State.ofNat_memRead_four,
    State.l4Base_eq_payloadOffset]

theorem State.armWaitTcpSynAck_of_other (h : ¬ (s.ipOk && s.isTcpAck) = true) : s.armWaitTcpSynAck = s.stay :=
  if_neg h

/-- What the SYN-ACK row waits for is `IsIp` and `IsTcpAck` (R236). -/
theorem State.ipOk_and_isTcpAck_iff :
    (s.ipOk && s.isTcpAck) = true ↔ ipHeaderValid s ∧ s.pbAt 23 = 6#8 ∧ forThisNode s
      ∧ (flagField s = 0x012#12 ∨ flagField s = 0x010#12 ∨ flagField s = 0x018#12) := by
  rw [Bool.and_eq_true, State.ipOk_iff, State.isTcpAck_iff]

end

/-- Settles O57: the row asks what `IsArpReply` asks, and stores the ARP sender field. -/
theorem fsmStepLearnsTheBrokerAddress : Obligations.FsmStepLearnsTheBrokerAddress := by
  intro s hwait
  have hstep := exec_fsmStep_of_waitArpResponse hwait
  rw [← s.arpFor_iff 2#16]
  refine ⟨fun hreply => ?_, fun hother => ?_⟩
  · rw [s.armWaitArpResponse_of_reply hreply] at hstep
    exact ⟨_, hstep, rfl, rfl, rfl, rfl, (s.brokerMac_only _).advance_complete .sendTcpSyn⟩
  · rw [s.armWaitArpResponse_of_other hother] at hstep
    exact fsmStays_of_stay hstep

/-- Settles O58: the row asks what `IsIp` and `IsTcpAck` ask, and stores the two numbers of the segment. -/
theorem fsmStepCapturesThePeersNumbers : Obligations.FsmStepCapturesThePeersNumbers := by
  intro s hwait
  have hstep := exec_fsmStep_of_waitTcpSynAck hwait
  rw [← s.ipOk_and_isTcpAck_iff]
  refine ⟨fun hack => ?_, fun hother => ?_⟩
  · rw [s.armWaitTcpSynAck_of_ack hack] at hstep
    exact ⟨_, hstep, rfl, rfl, rfl, rfl, rfl, (s.tcpNumbers_only _ _).advance_complete .sendTcpAck⟩
  · rw [s.armWaitTcpSynAck_of_other hother] at hstep
    exact fsmStays_of_stay hstep

/-! ### The sending rows (R233, R235, R237) -/

theorem State.advance_eq (s : State) (q : FsmState) :
    s.advance q = { s with fsm := q, flags := { s.flags with matched := true } } := rfl

theorem State.sendArpRequest_sent (s : State) (ip : BitVec 32) : Sent 42 [] s (s.sendArpRequest ip) :=
  (s.arpRequestFrame_pbOnly ip).sent 42

theorem State.sendTcpSegment_sent (s : State) (f : Nat) :
    Sent (14 + 20 + tcpHeaderLength f + s.tcpPayloadLength f) [] s (s.sendTcpSegment f) :=
  (s.tcpFrame_pbOnly f).sent _

theorem exec_buildTcpSegment_of_accepted {flags : BitVec 16} (h : flags.toNat ∈ acceptedTcpFlags) (s : State) :
    exec (.buildTcpSegment flags) s = .next (s.sendTcpSegment flags.toNat) :=
  congrArg Host.Outcome.next (if_pos h)

/-- SYN and ACK are both sent on the context that `CTX.LOAD` leaves, and carry no payload (R235, R237). -/
theorem fsmStep_sendsOnLoadedContext {s : State} {flags : BitVec 16} {f n : Nat} {q : FsmState}
    (hflags : flags.toNat = f) (haccepted : f ∈ acceptedTcpFlags) (hempty : f ≠ flagPushAck)
    (hlength : 14 + 20 + tcpHeaderLength f = n)
    (hstep : exec .fsmStep s = .next ((s.loadContext.complete.sendTcpSegment f).advance q)) :
    ∃ c u, exec .ctxLoad s = .next c ∧ exec (.buildTcpSegment flags) c = .next u ∧ Sent n [] c u
      ∧ exec .fsmStep s = .next { u with fsm := q, flags := { u.flags with matched := true } } := by
  subst hflags
  rw [State.advance_eq] at hstep
  have hsent := s.loadContext.complete.sendTcpSegment_sent flags.toNat
  rw [State.tcpPayloadLength, if_neg hempty, Nat.add_zero, hlength] at hsent
  exact ⟨_, _, rfl, exec_buildTcpSegment_of_accepted haccepted s.loadContext.complete, hsent, hstep⟩

/-- Settles O59: each sending row is the builder's own operation, and then the transition. -/
theorem fsmStepSendsAndAdvances : Obligations.FsmStepSendsAndAdvances := by
  refine fun s => ⟨fun harp => ?_, fun hsyn => ?_, fun hack => ?_⟩
  · have hstep := exec_fsmStep_of_sendArpRequest harp
    rw [State.armSendArpRequest, State.advance_eq] at hstep
    exact ⟨_, rfl, s.sendArpRequest_sent s.brokerIp, hstep⟩
  · exact fsmStep_sendsOnLoadedContext (f := flagSyn) rfl (by decide) (by decide) rfl
      (exec_fsmStep_of_sendTcpSyn hsyn)
  · exact fsmStep_sendsOnLoadedContext (f := flagAck) rfl (by decide) (by decide) rfl
      (exec_fsmStep_of_sendTcpAck hack)

end Sys2Proof.Machine

/-! PROOFS. The system commands (45_system.md R250 to R259): the encodings of their formats, the registers their
numbers name, and what each command that reads or writes a register or a buffer leaves. -/

namespace Sys2Proof

/-! ### The encodings of formats `R`, `W`, `O` and `OB` -/

/-- A byte operand reads back from where it was laid out (30_encoding.md R103). -/
theorem operand_byte (pre suf : List Byte) (i : Nat) (b : Byte) (hi : pre.length = i) :
    operand (pre ++ [b] ++ suf) i 1 = b.toNat := by
  rw [operand_at pre [b] suf i 1 hi rfl]
  simp [Machine.beNat_cons]

section

variable {op : Byte}

theorem decode_of_format_r {k : Byte → Instr} (hfmt : formatOf op = some (.r k)) (n : Byte) :
    decode [op, n] = .command (k n) := by
  have hn : operand [op, n] 1 1 = n.toNat := operand_byte [op] [] 1 n rfl
  rw [decode_cons_of_length hfmt (by simp [Format.fixedLength]) rfl, Format.assemble, hn, BitVec.ofNat_toNat,
    BitVec.setWidth_eq]

theorem decode_of_format_w {k : Byte → BitVec 48 → Instr} (hfmt : formatOf op = some (.w k)) (n : Byte)
    (val : BitVec 48) : decode (op :: n :: beBytes 6 val.toNat) = .command (k n val) := by
  have hn : operand (op :: n :: beBytes 6 val.toNat) 1 1 = n.toNat := operand_byte [op] _ 1 n rfl
  have hval : operand (op :: n :: beBytes 6 val.toNat) 2 6 = val.toNat := by
    have hat := operand_at [op, n] (beBytes 6 val.toNat) [] 2 6 rfl (Machine.beBytes_length 6 _)
    rwa [List.append_nil, beNat_beBytes_of_lt 6 _ val.isLt] at hat
  rw [decode_cons_of_length hfmt (by simp [Format.fixedLength]) (by simp [Format.requiredLength, Format.fixedLength]),
    Format.assemble, hn, hval, BitVec.ofNat_toNat, BitVec.ofNat_toNat, BitVec.setWidth_eq, BitVec.setWidth_eq]

theorem decode_of_format_o {k : BitVec 16 → Instr} (hfmt : formatOf op = some (.o k)) (off : BitVec 16) :
    decode (op :: beBytes 2 off.toNat) = .command (k off) := by
  have hoff : operand (op :: beBytes 2 off.toNat) 1 2 = off.toNat := operand_beBytes_two [op] [] 1 off rfl
  rw [decode_cons_of_length hfmt (by simp [Format.fixedLength]) (by simp [Format.requiredLength, Format.fixedLength]),
    Format.assemble, hoff, BitVec.ofNat_toNat, BitVec.setWidth_eq]

theorem decode_of_format_ob {k : BitVec 16 → Byte → Instr} (hfmt : formatOf op = some (.ob k)) (off : BitVec 16)
    (byte : Byte) : decode (op :: (beBytes 2 off.toNat ++ [byte])) = .command (k off byte) := by
  have hoff : operand (op :: (beBytes 2 off.toNat ++ [byte])) 1 2 = off.toNat :=
    operand_beBytes_two [op] [byte] 1 off rfl
  have hbyte : operand (op :: (beBytes 2 off.toNat ++ [byte])) 3 1 = byte.toNat :=
    operand_byte (op :: beBytes 2 off.toNat) [] 3 byte rfl
  rw [decode_cons_of_length hfmt (by simp [Format.fixedLength]) (by simp [Format.requiredLength, Format.fixedLength]),
    Format.assemble, hoff, hbyte, BitVec.ofNat_toNat, BitVec.ofNat_toNat, BitVec.setWidth_eq, BitVec.setWidth_eq]

end

end Sys2Proof

namespace Sys2Proof.Machine

/-! ### The register a number names (10_state.md R20) -/

theorem Reg.mem_all (r : Reg) : r ∈ Reg.all := by
  cases r <;> decide

theorem Reg.ofNumber?_number (r : Reg) : Reg.ofNumber? r.number = some r := by
  cases r <;> rfl

/-- The reserved numbers are the gaps between the numbers of the registers. -/
theorem reservedRegister_iff_not_mem_numbers (n : Byte) : reservedRegister n ↔ n ∉ Reg.all.map Reg.number := by
  simp only [reservedRegister, Reg.all, List.map_cons, List.map_nil, Reg.number, List.mem_cons, List.not_mem_nil,
    or_false, not_or, BitVec.le_def, ← BitVec.toNat_inj, BitVec.reduceToNat]
  constructor
  · omega
  · intro hgaps
    omega

theorem Reg.ofNumber?_of_reserved {n : Byte} (h : reservedRegister n) : Reg.ofNumber? n = none := by
  rw [Option.eq_none_iff_forall_ne_some]
  intro r hr
  refine (reservedRegister_iff_not_mem_numbers n).mp h ?_
  exact Reg.number_of_ofNumber? hr ▸ List.mem_map_of_mem r.mem_all

/-- The registers of class RW are those of number 0x00 to 0x20 (R21 to R41). -/
theorem Reg.readOnly_eq_false_iff (r : Reg) : r.readOnly = false ↔ r.number.toNat ≤ 0x20 := by
  cases r <;> decide

theorem writableReg_number {r : Reg} (h : r.number.toNat ≤ 0x20) : writableReg r.number = some r := by
  rw [writableReg, r.ofNumber?_number, Option.filter_some, r.readOnly_eq_false_iff.mpr h]
  rfl

theorem writableReg_eq_none {n : Byte} (h : reservedRegister n ∨ 0x21 ≤ n ∧ n ≤ 0x27) : writableReg n = none := by
  obtain hreserved | ⟨hlow, -⟩ := h
  · rw [writableReg, Reg.ofNumber?_of_reserved hreserved, Option.filter_none]
  · rw [Option.eq_none_iff_forall_ne_some]
    intro r hr
    obtain ⟨hnumber, hclass⟩ := Option.filter_eq_some_iff.mp hr
    have hwritable := r.readOnly_eq_false_iff.mp (by simpa using hclass)
    rw [Reg.number_of_ofNumber? hnumber] at hwritable
    exact absurd (BitVec.le_def.mp hlow) (Nat.not_le.mpr (Nat.lt_succ_of_le hwritable))

/-- The registers `IPVALID` takes (R252). -/
def addressRegs : List Reg := Reg.all.filter Reg.isAddress

theorem mem_addressRegs_iff (r : Reg) : r ∈ addressRegs ↔ r.isAddress = true := by
  simp [addressRegs, r.mem_all]

theorem addressReg_number {r : Reg} (h : r ∈ addressRegs) : addressReg r.number = some r := by
  rw [addressReg, r.ofNumber?_number, Option.filter_some, (mem_addressRegs_iff r).mp h, if_pos rfl]

theorem addressReg_eq_none {n : Byte} (h : n ∉ addressRegs.map Reg.number) : addressReg n = none := by
  rw [Option.eq_none_iff_forall_ne_some]
  intro r hr
  obtain ⟨hnumber, haddress⟩ := Option.filter_eq_some_iff.mp hr
  exact h (Reg.number_of_ofNumber? hnumber ▸ List.mem_map_of_mem ((mem_addressRegs_iff r).mpr haddress))

/-! ### Register values -/

theorem Reg.width_le (r : Reg) : r.width ≤ 48 := by
  cases r <;> decide

theorem State.readReg_lt_width (s : State) (r : Reg) : s.readReg r < 2 ^ r.width := by
  cases r <;> exact BitVec.isLt _

/-- Every register fits `RESULT` (R37). -/
theorem State.readReg_lt (s : State) (r : Reg) : s.readReg r < 2 ^ 48 :=
  (s.readReg_lt_width r).trans_le (Nat.pow_le_pow_right (by decide) r.width_le)

theorem State.withResult_result_toNat (s : State) {v : Nat} (h : v < 2 ^ 48) : (s.withResult v).result.toNat = v := by
  rw [State.withResult_result, BitVec.toNat_ofNat, Nat.mod_eq_of_lt h]

/-- Read after write: a register of class RW holds the low bits (R251). -/
theorem State.readReg_writeReg_same (s : State) {r : Reg} (val : BitVec 48) (h : r.readOnly = false) :
    (s.writeReg r val).readReg r = val.toNat % 2 ^ r.width := by
  cases r with
  | result | flags | err | fsmState | rxLen | psbLen | mqLen => exact nomatch h
  | localMac | brokerMac | ctxSrcMac | ctxDstMac => exact (Nat.mod_eq_of_lt val.isLt).symm
  | _ => exact BitVec.toNat_setWidth _ val

theorem State.writeReg_only (s : State) (r : Reg) (val : BitVec 48) : OnlyRegs [r] s (s.writeReg r val) where
  regs := s.writeReg_regsKept r val
  pb := fun _ => by cases r <;> rfl
  psb := fun _ => by cases r <;> rfl
  ports := by cases r <;> exact ⟨rfl, rfl, rfl, rfl, rfl, rfl, rfl, rfl⟩

/-! ### How a system command ends -/

section

variable {i : Instr} {s : State}

theorem faulted_of_raise {f : CmdFault} (hexec : exec i s = .next (s.raise f)) :
    ∃ t, exec i s = .next t ∧ Faulted f s t :=
  ⟨_, hexec, s.raise_faulted f⟩

/-- A command that hands back a byte of a buffer (R256, R259). -/
theorem handsBack_of_withResult {b : Byte} (hexec : exec i s = .next (s.withResult b.toNat).complete) :
    ∃ t, exec i s = .next t ∧ t.result = b.setWidth 48 ∧ t.err = .ok ∧ OnlyRegs [.result, .err] s t :=
  ⟨_, hexec, BitVec.ofNat_toNat 48 b, State.complete_err _, s.withResult_only _⟩

end

/-! ### `RD` (R250) -/

theorem exec_rd_of_number (s : State) (r : Reg) :
    exec (.rd r.number) s = .next (s.withResult (s.readReg r)).complete := by
  simp only [exec, execRd, readableReg, r.ofNumber?_number]

theorem exec_rd_of_reserved (s : State) {n : Byte} (h : reservedRegister n) :
    exec (.rd n) s = .next (s.raise .badOperand) := by
  simp only [exec, execRd, readableReg, Reg.ofNumber?_of_reserved h]

/-- Settles O22: the listed pairs are the register file with its values, and every value fits `RESULT`. -/
theorem rdHandsBackTheRegister : Obligations.RdHandsBackTheRegister := by
  refine ⟨decode_of_format_r rfl, fun s n v hlisted => ?_, fun s n hreserved => ?_⟩
  · change (n, v) ∈ Reg.all.map (fun r => (r.number, s.readReg r)) at hlisted
    obtain ⟨r, -, hpair⟩ := List.mem_map.mp hlisted
    obtain ⟨rfl, rfl⟩ := Prod.mk.inj hpair
    exact ⟨_, exec_rd_of_number s r, s.withResult_result_toNat (s.readReg_lt r), State.complete_err _,
      s.withResult_only _⟩
  · exact faulted_of_raise (exec_rd_of_reserved s hreserved)

/-! ### `WR` (R251) -/

theorem exec_wr_of_writable (s : State) {n : Byte} {r : Reg} (h : writableReg n = some r) (val : BitVec 48) :
    exec (.wr n val) s = .next (s.writeReg r val).complete := by
  simp only [exec, execWr, h]

theorem exec_wr_of_not_writable (s : State) {n : Byte} (h : writableReg n = none) (val : BitVec 48) :
    exec (.wr n val) s = .next (s.raise .badOperand) := by
  simp only [exec, execWr, h]

/-- Settles O23: a number up to 0x20 names a register of class RW, every other number none. -/
theorem wrStoresTheTruncatedValue : Obligations.WrStoresTheTruncatedValue := by
  refine ⟨decode_of_format_w rfl, fun s r val hnumber => ?_, fun s n val hother => ?_⟩
  · have hclass : r.readOnly = false := r.readOnly_eq_false_iff.mpr hnumber
    have hvalue : (s.writeReg r val).complete.readReg r = val.toNat % 2 ^ r.width := by
      rw [State.readReg_complete _ r (fun e => by simp [e, Reg.readOnly] at hclass), s.readReg_writeReg_same val hclass]
    exact ⟨_, exec_wr_of_writable s (writableReg_number hnumber) val, hvalue, State.complete_err _,
      (s.writeReg_only r val).trans (State.complete_only _)⟩
  · exact faulted_of_raise (exec_wr_of_not_writable s (writableReg_eq_none hother) val)

/-! ### `IPVALID` (R252) -/

theorem exec_ipvalid_of_address (s : State) {r : Reg} (h : r ∈ addressRegs) :
    exec (.ipvalid r.number) s = .next (s.withMatch (decide (s.readReg r ≠ 0))).complete := by
  simp only [exec, execIpvalid, addressReg_number h]

theorem exec_ipvalid_of_other (s : State) {n : Byte} (h : n ∉ addressRegs.map Reg.number) :
    exec (.ipvalid n) s = .next (s.raise .badOperand) := by
  simp only [exec, execIpvalid, addressReg_eq_none h]

/-- A listed address is the value of the address register of that number. -/
theorem exists_addressReg {s : State} {n : Byte} {v : BitVec 32}
    (h : (n, v) ∈ [((0x01 : Byte), s.localIp), (0x02, s.subnetMask), (0x03, s.gatewayIp), (0x04, s.brokerIp),
      (0x12, s.ctxSrcIp), (0x13, s.ctxDstIp)]) : ∃ r ∈ addressRegs, r.number = n ∧ s.readReg r = v.toNat := by
  have hvalue := List.mem_map_of_mem (f := fun p => (p.1, p.2.toNat)) h
  change (n, v.toNat) ∈ addressRegs.map (fun r => (r.number, s.readReg r)) at hvalue
  obtain ⟨r, hr, hpair⟩ := List.mem_map.mp hvalue
  exact ⟨r, hr, Prod.mk.inj hpair⟩

/-- Settles O24: the six numbers are those of the address registers, and an address is 0.0.0.0 when its number
is zero. -/
theorem ipvalidAnswersWhetherNonzero : Obligations.IpvalidAnswersWhetherNonzero := by
  refine ⟨decode_of_format_r rfl, fun s n v hlisted => ?_, fun s n hother => ?_⟩
  · obtain ⟨r, hr, rfl, hv⟩ := exists_addressReg hlisted
    have hanswer : decide (s.readReg r ≠ 0) = true ↔ v ≠ 0 := by
      rw [decide_eq_true_iff, hv, ne_eq, ne_eq, ← BitVec.toNat_inj]
      rfl
    exact ⟨_, exec_ipvalid_of_address s hr, hanswer, rfl, State.complete_err _, s.withMatch_only _⟩
  · exact faulted_of_raise (exec_ipvalid_of_other s hother)

/-! ### `CTX.LOAD` (R253) -/

theorem State.loadContext_only (s : State) :
    OnlyRegs [.ctxSrcMac, .ctxDstMac, .ctxSrcIp, .ctxDstIp, .ctxDstPort] s s.loadContext where
  regs := fun r hr => by
    cases r with
    | ctxSrcMac | ctxDstMac | ctxSrcIp | ctxDstIp | ctxDstPort => simp at hr
    | _ => rfl
  pb := fun _ => rfl
  psb := fun _ => rfl
  ports := ⟨rfl, rfl, rfl, rfl, rfl, rfl, rfl, rfl⟩

/-- Settles O25: the context is loaded, and the completion writes `ERR` beside it. -/
theorem ctxLoadCopiesTheConfiguration : Obligations.CtxLoadCopiesTheConfiguration :=
  ⟨rfl, fun s => ⟨_, rfl, rfl, rfl, rfl, rfl, rfl, rfl, s.loadContext_only.trans (State.complete_only _)⟩⟩

/-! ### `RX.OVF` (R255) -/

theorem State.pollOverflow_regsKept (s : State) : RegsKept [.flags] s s.pollOverflow := by
  intro r hr
  cases r with
  | flags => simp at hr
  | _ => rfl

/-- Settles O27: the poll takes one answer into `OVF`, and the completion does not ask which. -/
theorem rxOvfReportsTheDriversAnswer : Obligations.RxOvfReportsTheDriversAnswer := by
  refine ⟨rfl, fun s => ?_⟩
  have hregs : RegsKept [.flags, .err] s s.pollOverflow.complete :=
    (s.pollOverflow_regsKept.mono (by simp)).trans ((State.complete_only _).regs.mono (by simp))
  exact ⟨_, rfl, rfl, rfl, hregs, fun _ => rfl, fun _ => rfl, rfl, rfl, rfl, rfl, rfl, rfl, rfl, rfl⟩

/-! ### What a store into a buffer keeps (20_memory.md R64) -/

theorem PortsKept.trans {s t u : State} (h : PortsKept s t) (k : PortsKept t u) : PortsKept s u where
  params := k.params.trans h.params
  inbox := k.inbox.trans h.inbox
  txAnswers := k.txAnswers.trans h.txAnswers
  ovfAnswers := k.ovfAnswers.trans h.ovfAnswers
  draws := k.draws.trans h.draws
  epoch := k.epoch.trans h.epoch
  txLog := k.txLog.trans h.txLog
  responses := k.responses.trans h.responses

section

variable (s : State) (a : Nat) (bs : List Byte)

theorem State.pbStore_pbKeptOutside : PbKeptOutside a bs.length s (s.pbStore a bs) := fun k hk => by
  rw [State.pbAt_pbStore, if_neg (by omega)]

theorem State.pbStore_portsKept : PortsKept s (s.pbStore a bs) := ⟨rfl, rfl, rfl, rfl, rfl, rfl, rfl, rfl⟩

theorem State.psbStore_portsKept : PortsKept s (s.psbStore a bs) := ⟨rfl, rfl, rfl, rfl, rfl, rfl, rfl, rfl⟩

end

section

variable {l : List Reg} {s t : State} {a : Nat} {bs : List Byte}

/-- A command that stores in `PB` and then writes registers keeps what neither touches. -/
theorem OnlyRegs.of_pbStore (h : OnlyRegs l (s.pbStore a bs) t) :
    PbKeptOutside a bs.length s t ∧ RegsKept l s t ∧ PsbKept s t ∧ PortsKept s t :=
  ⟨fun k hk => (h.pb k).trans (s.pbStore_pbKeptOutside a bs k hk),
    fun r hr => (h.regs r hr).trans (s.readReg_pbStore r a bs), h.psb, (s.pbStore_portsKept a bs).trans h.ports⟩

/-- A command that stores in `PSB` and then writes registers keeps what neither touches. -/
theorem OnlyRegs.of_psbStore (h : OnlyRegs l (s.psbStore a bs) t) :
    (∀ k, a + bs.length ≤ k → t.psbAt k = s.psbAt k) ∧ RegsKept l s t ∧ PbKept s t ∧ PortsKept s t := by
  refine ⟨fun k hk => ?_, fun r hr => (h.regs r hr).trans (s.readReg_psbStore r a bs), h.pb,
    (s.psbStore_portsKept a bs).trans h.ports⟩
  rw [h.psb k, State.psbAt_psbStore, if_neg (by omega)]

end

section

variable (s : State) (n : BitVec 16)

theorem State.rxLen_only : OnlyRegs [.rxLen, .err] s ({ s with rxLen := n } : State).complete where
  regs := fun r hr => by
    cases r with
    | rxLen | err => simp at hr
    | _ => rfl
  pb := fun _ => rfl
  psb := fun _ => rfl
  ports := ⟨rfl, rfl, rfl, rfl, rfl, rfl, rfl, rfl⟩

theorem State.psbLen_only : OnlyRegs [.psbLen, .err] s ({ s with psbLen := n } : State).complete where
  regs := fun r hr => by
    cases r with
    | psbLen | err => simp at hr
    | _ => rfl
  pb := fun _ => rfl
  psb := fun _ => rfl
  ports := ⟨rfl, rfl, rfl, rfl, rfl, rfl, rfl, rfl⟩

end

/-! ### `RX.LOAD` and `PSB.LOAD` (R254, R258) -/

section

variable (s : State) {data : List Byte}

theorem exec_rxLoad_of_le (h : data.length ≤ 1522) :
    exec (.rxLoad data) s
      = .next ({ s.pbStore 0 data with rxLen := BitVec.ofNat 16 data.length } : State).complete :=
  congrArg Host.Outcome.next (if_neg (Nat.not_lt.mpr h))

theorem exec_rxLoad_of_gt (h : 1522 < data.length) : exec (.rxLoad data) s = .next (s.raise .badOperand) :=
  congrArg Host.Outcome.next (if_pos h)

theorem exec_psbLoad_of_le (h : data.length ≤ 1468) :
    exec (.psbLoad data) s
      = .next ({ s.psbStore 0 data with psbLen := BitVec.ofNat 16 data.length } : State).complete :=
  congrArg Host.Outcome.next (if_neg (Nat.not_lt.mpr h))

theorem exec_psbLoad_of_gt (h : 1468 < data.length) : exec (.psbLoad data) s = .next (s.raise .badOperand) :=
  congrArg Host.Outcome.next (if_pos h)

end

/-- Settles O26: a frame that fits is stored from offset 0, and its length fits `RX_LEN`. -/
theorem rxLoadDeliversTheFrame : Obligations.RxLoadDeliversTheFrame := by
  refine ⟨fun data => decode_of_format_s rfl, fun s data => ⟨fun hfits => ?_, fun hlong => ?_⟩⟩
  · have hframe := (s.pbStore 0 data).rxLen_only (BitVec.ofNat 16 data.length)
    have hbytes := (State.pbBytes_congr _ _ 0 data.length (fun k _ _ => hframe.pb k)).trans
      (s.pbBytes_pbStore_same 0 _ data rfl)
    have hlength : (BitVec.ofNat 16 data.length).toNat = data.length := by
      rw [BitVec.toNat_ofNat, Nat.mod_eq_of_lt (by omega)]
    obtain ⟨hbehind, hregs, hpsb, hports⟩ := hframe.of_pbStore
    exact ⟨_, exec_rxLoad_of_le s hfits, hbytes, hbehind, hlength, State.complete_err _, hregs, hpsb, hports⟩
  · exact faulted_of_raise (exec_rxLoad_of_gt s hlong)

/-- Settles O29: a payload that fits is stored from offset 0, and its length fits `PSB_LEN`. -/
theorem psbLoadStagesThePayload : Obligations.PsbLoadStagesThePayload := by
  refine ⟨fun data => decode_of_format_s rfl, fun s data => ⟨fun hfits => ?_, fun hlong => ?_⟩⟩
  · have hframe := (s.psbStore 0 data).psbLen_only (BitVec.ofNat 16 data.length)
    have hbytes := (State.psbBytes_congr _ _ 0 data.length (fun k _ _ => hframe.psb k)).trans
      (s.psbBytes_psbStore_same 0 _ data rfl)
    have hlength : (BitVec.ofNat 16 data.length).toNat = data.length := by
      rw [BitVec.toNat_ofNat, Nat.mod_eq_of_lt (by omega)]
    obtain ⟨hbehind, hregs, hpb, hports⟩ := hframe.of_psbStore
    exact ⟨_, exec_psbLoad_of_le s hfits, hbytes, fun k hk => hbehind k (by omega), hlength, State.complete_err _,
      hregs, hpb, hports⟩
  · exact faulted_of_raise (exec_psbLoad_of_gt s hlong)

/-! ### `PB.RD`, `PB.WR` and `PSB.RD` (R256, R257, R259) -/

section

variable (s : State) {off : BitVec 16}

theorem exec_pbRd_of_lt (h : off.toNat < 1522) :
    exec (.pbRd off) s = .next (s.withResult (s.pbAt off.toNat).toNat).complete :=
  congrArg Host.Outcome.next (if_neg (Nat.not_le.mpr h))

theorem exec_pbRd_of_ge (h : 1522 ≤ off.toNat) : exec (.pbRd off) s = .next (s.raise .bounds) :=
  congrArg Host.Outcome.next (if_pos h)

theorem exec_pbWr_of_lt (h : off.toNat < 1522) (byte : Byte) :
    exec (.pbWr off byte) s = .next (s.pbStore off.toNat [byte]).complete :=
  congrArg Host.Outcome.next (if_neg (Nat.not_le.mpr h))

theorem exec_pbWr_of_ge (h : 1522 ≤ off.toNat) (byte : Byte) : exec (.pbWr off byte) s = .next (s.raise .bounds) :=
  congrArg Host.Outcome.next (if_pos h)

theorem exec_psbRd_of_lt (h : off.toNat < 1468) :
    exec (.psbRd off) s = .next (s.withResult (s.psbAt off.toNat).toNat).complete :=
  congrArg Host.Outcome.next (if_neg (Nat.not_le.mpr h))

theorem exec_psbRd_of_ge (h : 1468 ≤ off.toNat) : exec (.psbRd off) s = .next (s.raise .bounds) :=
  congrArg Host.Outcome.next (if_pos h)

theorem State.pbAt_pbStore_singleton (a : Nat) (byte : Byte) : (s.pbStore a [byte]).pbAt a = byte := by
  simp [State.pbAt_pbStore]

end

/-- Settles O28: below the capacity a read hands back the byte and a write is a store of one byte; beyond it
each command raises its fault. -/
theorem bufferBytesAreReadAndWritten : Obligations.BufferBytesAreReadAndWritten := by
  refine ⟨fun off byte => ⟨decode_of_format_o rfl off, decode_of_format_ob rfl off byte, decode_of_format_o rfl off⟩,
    fun s off byte => ⟨fun h => ?_, fun h => ?_, fun h => ?_, fun h => ?_, fun h => ?_, fun h => ?_⟩⟩
  · exact handsBack_of_withResult (exec_pbRd_of_lt s h)
  · exact faulted_of_raise (exec_pbRd_of_ge s h)
  · obtain ⟨hother, hregs, hpsb, hports⟩ := (s.pbStore off.toNat [byte]).complete_only.of_pbStore
    exact ⟨_, exec_pbWr_of_lt s h byte, s.pbAt_pbStore_singleton off.toNat byte, hother, State.complete_err _, hregs,
      hpsb, hports⟩
  · exact faulted_of_raise (exec_pbWr_of_ge s h byte)
  · exact handsBack_of_withResult (exec_psbRd_of_lt s h)
  · exact faulted_of_raise (exec_psbRd_of_ge s h)

end Sys2Proof.Machine

/-! PROOFS. The decoder and the encoder are inverse (30_encoding.md R102 to R105), and the decoder's verdict on
every length (R104). Each format is treated once; the commands come in through the opcode map. -/

namespace Sys2Proof

open Sys2Proof.Machine

/-! ### Operands laid out as they were read -/

/-- A number tells the byte string of a given length (R60). -/
theorem beNat_inj {bs cs : List Byte} (hlength : bs.length = cs.length) (h : beNat bs = beNat cs) : bs = cs := by
  induction bs generalizing cs with
  | nil => exact (List.length_eq_zero_iff.mp hlength.symm).symm
  | cons b bs ih =>
    obtain _ | ⟨c, cs⟩ := cs
    · cases hlength
    · have htail : bs.length = cs.length := Nat.succ.inj hlength
      have hb := beNat_lt bs
      have hc := beNat_lt cs
      rw [beNat_cons, beNat_cons, htail] at h
      rw [htail] at hb
      have hhead : b.toNat = c.toNat := by
        have hpos : 0 < 256 ^ cs.length := by positivity
        have hdiv := congrArg (· / 256 ^ cs.length) h
        simpa only [Nat.add_comm _ (beNat _), Nat.add_mul_div_right _ _ hpos, Nat.div_eq_of_lt hb,
          Nat.div_eq_of_lt hc, Nat.zero_add] using hdiv
      rw [hhead] at h
      rw [BitVec.eq_of_toNat_eq hhead, ih htail (Nat.add_left_cancel h)]

/-- An operand of the command is the field laid out where it stands (R103). -/
theorem beBytes_operand {bs : List Byte} {i n : Nat} (h : i + n ≤ bs.length) :
    beBytes n (operand bs i n) = (bs.drop i).take n := by
  have hlength : ((bs.drop i).take n).length = n := by simp; omega
  have hlt := beNat_lt ((bs.drop i).take n)
  rw [hlength] at hlt
  exact beNat_inj (by rw [beBytes_length, hlength]) (beNat_beBytes_of_lt n _ hlt)

theorem operand_lt {bs : List Byte} {i n : Nat} : operand bs i n < 256 ^ n := by
  have hlt := beNat_lt ((bs.drop i).take n)
  exact hlt.trans_le (Nat.pow_le_pow_right (by decide) (List.length_take_le _ _))

/-! ### The decoder's verdicts -/

/-- All that the decoder accepts (R104). -/
theorem decode_eq_command_iff (bytes : List Byte) (i : Instr) :
    decode bytes = .command i ↔ ∃ op args fmt, bytes = op :: args ∧ formatOf op = some fmt
      ∧ fmt.fixedLength ≤ (op :: args).length ∧ (op :: args).length = fmt.requiredLength (op :: args)
      ∧ fmt.assemble (op :: args) = i := by
  constructor
  · intro h
    obtain _ | ⟨op, args⟩ := bytes
    · cases h
    · cases hfmt : formatOf op with
      | none => simp [decode, hfmt] at h
      | some fmt =>
        simp only [decode, hfmt] at h
        split at h
        next => cases h
        next hfixed =>
          split at h
          next => cases h
          next hlength =>
            exact ⟨op, args, fmt, rfl, hfmt, Nat.not_lt.mp hfixed, not_not.mp hlength, Verdict.command.inj h⟩
  · rintro ⟨op, args, fmt, rfl, hfmt, hfixed, hlength, rfl⟩
    exact decode_cons_of_length hfmt hfixed hlength

/-- Behind the fixed part any length but the required one is `BAD_OPERAND` (R104). -/
theorem decode_cons_eq_badOperand {op : Byte} {args : List Byte} {fmt : Format} (hfmt : formatOf op = some fmt)
    (hfixed : fmt.fixedLength ≤ (op :: args).length)
    (hlength : (op :: args).length ≠ fmt.requiredLength (op :: args)) : decode (op :: args) = .badOperand := by
  simp only [decode, hfmt]
  rw [if_neg (Nat.not_lt.mpr hfixed), if_pos hlength]

/-- Without the fixed part a command is `ILLEGAL_OPCODE` (R104). -/
theorem decode_cons_eq_illegalOpcode {op : Byte} {args : List Byte} {fmt : Format} (hfmt : formatOf op = some fmt)
    (hshort : (op :: args).length < fmt.fixedLength) : decode (op :: args) = .illegalOpcode := by
  rw [decode_cons_eq_illegalOpcode_iff, hfmt]
  rintro _ ⟨⟩
  exact hshort

/-! ### Decoding an encoded command -/

theorem decode_of_format_z {op : Byte} {i : Instr} (hfmt : formatOf op = some (.z i)) :
    decode [op] = .command i :=
  decode_cons_of_length hfmt le_rfl rfl

theorem decode_of_format_f {op : Byte} {k : BitVec 16 → Instr} (hfmt : formatOf op = some (.f k))
    (flags : BitVec 16) : decode (op :: beBytes 2 flags.toNat) = .command (k flags) := by
  have hflags : operand (op :: beBytes 2 flags.toNat) 1 2 = flags.toNat := operand_beBytes_two [op] [] 1 flags rfl
  rw [decode_cons_of_length hfmt (by simp [Format.fixedLength]) (by simp [Format.requiredLength, Format.fixedLength]),
    Format.assemble, hflags, BitVec.ofNat_toNat, BitVec.setWidth_eq]

/-- Settles O15: the encoder writes each command in the format of its opcode, and the decoder reads each format
back; the bound on a string is what its length field needs. -/
theorem decodeOfEncodeIsTheCommand : Obligations.DecodeOfEncodeIsTheCommand := by
  intro i hwf
  cases i with
  | rd reg | ipvalid reg => exact decode_of_format_r rfl reg
  | wr reg val => exact decode_of_format_w rfl reg val
  | pbRd off | psbRd off => exact decode_of_format_o rfl off
  | pbWr off byte => exact decode_of_format_ob rfl off byte
  | acc off cnt => exact decode_acc off cnt
  | buildArpRequest ip => exact decode_buildArpRequest ip
  | buildTcpSegment flags => exact decode_of_format_f rfl flags
  | rxLoad data | psbLoad data | mqSubscribe data | mqUnsubscribe data =>
    exact decode_of_format_s rfl ((fitsLength_iff data).mp hwf)
  | mqPublish topic data =>
    obtain ⟨htopic, hdata⟩ := (Bool.and_eq_true _ _).mp hwf
    exact decode_of_format_ss rfl ((fitsLength_iff topic).mp htopic) ((fitsLength_iff data).mp hdata)
  | _ => exact decode_of_format_z rfl

/-! ### Encoding a decoded command -/

/-- The encoder writes the commands of a format in that format's layout behind the opcode (R102), and they have an
encoding as far as their strings' lengths fit. -/
def Format.LaidOut (op : Byte) : Format → Prop
  | .z i => i.wf = true ∧ encode i = [op]
  | .r k => ∀ n, (k n).wf = true ∧ encode (k n) = [op, n]
  | .w k => ∀ n val, (k n val).wf = true ∧ encode (k n val) = op :: n :: beBytes 6 val.toNat
  | .o k => ∀ off, (k off).wf = true ∧ encode (k off) = op :: beBytes 2 off.toNat
  | .ob k => ∀ off byte, (k off byte).wf = true ∧ encode (k off byte) = op :: (beBytes 2 off.toNat ++ [byte])
  | .oc k => ∀ off cnt, (k off cnt).wf = true
      ∧ encode (k off cnt) = op :: (beBytes 2 off.toNat ++ beBytes 2 cnt.toNat)
  | .a k => ∀ ip, (k ip).wf = true ∧ encode (k ip) = op :: beBytes 4 ip.toNat
  | .f k => ∀ flags, (k flags).wf = true ∧ encode (k flags) = op :: beBytes 2 flags.toNat
  | .s k => ∀ data, (k data).wf = fitsLength data ∧ encode (k data) = op :: lengthPrefixed data
  | .ss k => ∀ topic data, (k topic data).wf = (fitsLength topic && fitsLength data)
      ∧ encode (k topic data) = op :: (lengthPrefixed topic ++ lengthPrefixed data)

theorem opcodeMap_laidOut : ∀ entry ∈ opcodeMap, entry.2.LaidOut entry.1 := by
  simp only [opcodeMap, List.forall_mem_cons]
  and_intros
  all_goals first
    | rfl
    | exact fun _ => ⟨rfl, rfl⟩
    | exact fun _ _ => ⟨rfl, rfl⟩
    | exact nofun

theorem laidOut_of_formatOf {op : Byte} {fmt : Format} (h : formatOf op = some fmt) : fmt.LaidOut op := by
  obtain ⟨before, behind, hmap, -⟩ := List.lookup_eq_some_iff.mp h
  exact opcodeMap_laidOut (op, fmt) (by rw [hmap]; exact List.mem_append_right _ List.mem_cons_self)

/-! ### The bytes behind the opcode, taken apart -/

section

variable {bs : List Byte} {i n m : Nat}

/-- An operand of `n` bytes fits a word of that width, so laying the word out loses nothing (R103). -/
theorem beBytes_operand_ofNat (h : i + n ≤ bs.length) :
    beBytes n (BitVec.ofNat (8 * n) (operand bs i n)).toNat = (bs.drop i).take n := by
  rw [BitVec.toNat_ofNat, Nat.mod_eq_of_lt (by rw [pow_mul]; exact operand_lt), beBytes_operand h]

theorem operand_ofNat_singleton (h : i + 1 ≤ bs.length) :
    [BitVec.ofNat 8 (operand bs i 1)] = (bs.drop i).take 1 := by
  have hfield := beBytes_operand (n := 1) h
  rwa [beBytes, beBytes, pow_zero, Nat.div_one] at hfield

/-- A string that is there whole, behind its length field, is laid out as it was read (R102). -/
theorem lengthPrefixed_operand (h : i + 2 + operand bs i 2 ≤ bs.length) :
    lengthPrefixed ((bs.drop (i + 2)).take (operand bs i 2)) = (bs.drop i).take (2 + operand bs i 2) := by
  have hlength : ((bs.drop (i + 2)).take (operand bs i 2)).length = operand bs i 2 := by simp; omega
  rw [lengthPrefixed, hlength, beBytes_operand (by omega), List.take_add, List.drop_drop]

theorem fitsLength_take_operand (cs : List Byte) : fitsLength (cs.take (operand bs i 2)) = true := by
  have hlt : operand bs i 2 < 256 ^ 2 := operand_lt
  have hle := List.length_take_le (operand bs i 2) cs
  rw [fitsLength_iff]
  omega

/-- Two operands that follow each other are all the bytes there are. -/
theorem take_append_take_drop (h : bs.length = i + (n + m)) :
    (bs.drop i).take n ++ (bs.drop (i + n)).take m = bs.drop i := by
  rw [← List.drop_drop, ← List.take_add, List.take_of_length_le (by rw [List.length_drop]; omega)]

end

/-- What a format makes of a command of the length it requires has an encoding, and that encoding is the command. -/
theorem Format.LaidOut.encode_assemble {op : Byte} {args : List Byte} {fmt : Format} (h : fmt.LaidOut op)
    (hfixed : fmt.fixedLength ≤ (op :: args).length)
    (hlength : (op :: args).length = fmt.requiredLength (op :: args)) :
    (fmt.assemble (op :: args)).wf = true ∧ encode (fmt.assemble (op :: args)) = op :: args := by
  have hargs : (op :: args).drop 1 = args := rfl
  cases fmt with
  | z i =>
    obtain rfl : args = [] := List.length_eq_zero_iff.mp (Nat.succ.inj hlength)
    exact h
  | r k =>
    obtain ⟨hwf, hbytes⟩ := h (BitVec.ofNat 8 (operand (op :: args) 1 1))
    refine ⟨hwf, hbytes.trans (congrArg (op :: ·) ?_)⟩
    rw [operand_ofNat_singleton hfixed, hargs, List.take_of_length_le (Nat.le_of_succ_le_succ hlength.le)]
  | o k | f k =>
    obtain ⟨hwf, hbytes⟩ := h (BitVec.ofNat 16 (operand (op :: args) 1 2))
    refine ⟨hwf, hbytes.trans (congrArg (op :: ·) ?_)⟩
    rw [beBytes_operand_ofNat (n := 2) hfixed, hargs, List.take_of_length_le (Nat.le_of_succ_le_succ hlength.le)]
  | a k =>
    obtain ⟨hwf, hbytes⟩ := h (BitVec.ofNat 32 (operand (op :: args) 1 4))
    refine ⟨hwf, hbytes.trans (congrArg (op :: ·) ?_)⟩
    rw [beBytes_operand_ofNat (n := 4) hfixed, hargs, List.take_of_length_le (Nat.le_of_succ_le_succ hlength.le)]
  | w k =>
    have hfirst : 2 ≤ (op :: args).length := le_trans (show 2 ≤ 8 by decide) hfixed
    obtain ⟨hwf, hbytes⟩ :=
      h (BitVec.ofNat 8 (operand (op :: args) 1 1)) (BitVec.ofNat 48 (operand (op :: args) 2 6))
    refine ⟨hwf, hbytes.trans (congrArg (op :: ·) ?_)⟩
    rw [← List.singleton_append, operand_ofNat_singleton hfirst, beBytes_operand_ofNat (n := 6) hfixed,
      take_append_take_drop hlength, hargs]
  | ob k =>
    have hfirst : 3 ≤ (op :: args).length := le_trans (show 3 ≤ 4 by decide) hfixed
    obtain ⟨hwf, hbytes⟩ :=
      h (BitVec.ofNat 16 (operand (op :: args) 1 2)) (BitVec.ofNat 8 (operand (op :: args) 3 1))
    refine ⟨hwf, hbytes.trans (congrArg (op :: ·) ?_)⟩
    rw [operand_ofNat_singleton hfixed, beBytes_operand_ofNat (n := 2) hfirst, take_append_take_drop hlength, hargs]
  | oc k =>
    have hfirst : 3 ≤ (op :: args).length := le_trans (show 3 ≤ 5 by decide) hfixed
    obtain ⟨hwf, hbytes⟩ :=
      h (BitVec.ofNat 16 (operand (op :: args) 1 2)) (BitVec.ofNat 16 (operand (op :: args) 3 2))
    refine ⟨hwf, hbytes.trans (congrArg (op :: ·) ?_)⟩
    rw [beBytes_operand_ofNat (n := 2) hfirst, beBytes_operand_ofNat (n := 2) hfixed, take_append_take_drop hlength,
      hargs]
  | s k =>
    obtain ⟨hwf, hbytes⟩ := h (((op :: args).drop 3).take (operand (op :: args) 1 2))
    rw [Format.requiredLength] at hlength
    refine ⟨hwf.trans (fitsLength_take_operand _), hbytes.trans (congrArg (op :: ·) ?_)⟩
    rw [lengthPrefixed_operand (i := 1) hlength.ge, hargs,
      List.take_of_length_le (by rw [List.length_cons] at hlength; omega)]
  | ss k =>
    rw [Format.requiredLength] at hlength
    rw [Format.assemble]
    have htopic := lengthPrefixed_operand (bs := op :: args) (i := 1) (by omega)
    have hdata := lengthPrefixed_operand (bs := op :: args) (i := 3 + operand (op :: args) 1 2) (by omega)
    have hfits := fitsLength_take_operand (bs := op :: args) (i := 1) ((op :: args).drop 3)
    generalize operand (op :: args) 1 2 = tlen at *
    have hfits' := fitsLength_take_operand (bs := op :: args) (i := 3 + tlen) ((op :: args).drop (5 + tlen))
    generalize operand (op :: args) (3 + tlen) 2 = dlen at *
    obtain ⟨hwf, hbytes⟩ := h (((op :: args).drop 3).take tlen) (((op :: args).drop (5 + tlen)).take dlen)
    refine ⟨hwf.trans (by rw [hfits, hfits', Bool.and_self]), hbytes.trans (congrArg (op :: ·) ?_)⟩
    rw [show 3 + tlen = 1 + (2 + tlen) by omega, show 1 + (2 + tlen) + 2 = 5 + tlen by omega] at hdata
    rw [htopic, hdata, take_append_take_drop (by omega), hargs]

/-- Settles O16: what the decoder accepts has the length its format requires, so every byte of it is an operand's. -/
theorem encodeOfDecodeIsTheBytes : Obligations.EncodeOfDecodeIsTheBytes := by
  intro bytes i h
  obtain ⟨op, args, fmt, rfl, hfmt, hfixed, hlength, rfl⟩ := (decode_eq_command_iff bytes i).mp h
  exact (laidOut_of_formatOf hfmt).encode_assemble hfixed hlength

/-! ### The length check (R104) -/

/-- The formats of one length (R102): all but `S` and `SS`. -/
def Format.oneLength : Format → Bool
  | .s _ => false
  | .ss _ => false
  | _ => true

theorem Format.requiredLength_of_oneLength {fmt : Format} (h : fmt.oneLength = true) (bs : List Byte) :
    fmt.requiredLength bs = fmt.fixedLength := by
  cases fmt with
  | s k | ss k => cases h
  | _ => rfl

/-- The opcode's format is one of one length, and that length is `n`. -/
def hasOneLength (op : Byte) (n : Nat) : Bool := (formatOf op).any (fun fmt => fmt.oneLength && fmt.fixedLength == n)

theorem hasOneLength_iff (op : Byte) (n : Nat) :
    hasOneLength op n = true ↔ ∃ fmt, formatOf op = some fmt ∧ fmt.oneLength = true ∧ fmt.fixedLength = n := by
  simp [hasOneLength, Option.any_eq_true]

/-- Settles O18: a format of one length requires just its fixed part. -/
theorem lengthCheckOfFixedFormats : Obligations.LengthCheckOfFixedFormats := by
  refine ⟨rfl, fun op args n hlisted => ?_⟩
  have hone : hasOneLength op n = true := by
    obtain hoperands | ⟨rfl, hplain⟩ := hlisted
    · exact (show ∀ entry ∈ _, hasOneLength entry.1 entry.2 = true by decide) _ hoperands
    · exact (show ∀ op ∈ _, hasOneLength op 1 = true by decide) _ hplain
  obtain ⟨fmt, hfmt, hkind, rfl⟩ := (hasOneLength_iff op n).mp hone
  have hrequired := Format.requiredLength_of_oneLength hkind (op :: args)
  refine ⟨fun hshort => decode_cons_eq_illegalOpcode hfmt hshort, fun hlong => ?_, fun hexact => ?_⟩
  · exact decode_cons_eq_badOperand hfmt hlong.le (hrequired ▸ hlong.ne')
  · exact ⟨_, decode_cons_of_length hfmt hexact.ge (hrequired ▸ hexact)⟩

section

variable {l1 l2 : Byte} {pre suf : List Byte}

theorem beNat_pair (l1 l2 : Byte) : beNat [l1, l2] = l1.toNat * 256 + l2.toNat := by
  simp [beNat]

/-- A 16-bit length field is its two bytes, most significant first (R103). -/
theorem operand_pair {bs : List Byte} {i : Nat} (hbs : bs = pre ++ [l1, l2] ++ suf) (hi : pre.length = i) :
    operand bs i 2 = l1.toNat * 256 + l2.toNat := by
  rw [hbs, operand_at pre [l1, l2] suf i 2 hi rfl, beNat_pair]

end

/-- The decoder on format `S` (R102, R104). -/
theorem decode_format_s {op : Byte} {k : List Byte → Instr} (hfmt : formatOf op = some (.s k)) (l1 l2 : Byte)
    (data : List Byte) : decode [op] = .illegalOpcode ∧ decode [op, l1] = .illegalOpcode
      ∧ (data.length ≠ l1.toNat * 256 + l2.toNat → decode (op :: l1 :: l2 :: data) = .badOperand)
      ∧ (data.length = l1.toNat * 256 + l2.toNat → ∃ i, decode (op :: l1 :: l2 :: data) = .command i) := by
  have hfield : operand (op :: l1 :: l2 :: data) 1 2 = l1.toNat * 256 + l2.toNat := operand_pair (pre := [op]) rfl rfl
  have hfixed : (Format.s k).fixedLength ≤ (op :: l1 :: l2 :: data).length := by simp [Format.fixedLength]
  have hrequired : (op :: l1 :: l2 :: data).length = (Format.s k).requiredLength (op :: l1 :: l2 :: data)
      ↔ data.length = l1.toNat * 256 + l2.toNat := by
    simp only [Format.requiredLength, hfield, List.length_cons]
    omega
  refine ⟨decode_cons_eq_illegalOpcode hfmt (by simp [Format.fixedLength]),
    decode_cons_eq_illegalOpcode hfmt (by simp [Format.fixedLength]), fun hother => ?_, fun hexact => ?_⟩
  · exact decode_cons_eq_badOperand hfmt hfixed (mt hrequired.mp hother)
  · exact ⟨_, decode_cons_of_length hfmt hfixed (hrequired.mpr hexact)⟩

/-- The four opcodes of format `S` (R105). -/
theorem formatOf_of_string {op : Byte} (h : op ∈ [(0x05 : Byte), 0x09, 0x41, 0x42]) :
    ∃ k, formatOf op = some (.s k) := by
  simp only [List.mem_cons, List.not_mem_nil, or_false] at h
  obtain rfl | rfl | rfl | rfl := h <;> exact ⟨_, rfl⟩

theorem formatOf_mqPublish : formatOf 0x43 = some (.ss .mqPublish) := rfl

/-- A topic that leaves no room for the second length field is cut short (R104, log 11). -/
theorem decode_mqPublish_of_short_topic {t1 t2 : Byte} {rest : List Byte} (hfixed : 2 ≤ rest.length)
    (hshort : rest.length < t1.toNat * 256 + t2.toNat + 2) :
    decode (0x43 :: t1 :: t2 :: rest) = .badOperand := by
  have htopic : operand (0x43 :: t1 :: t2 :: rest) 1 2 = t1.toNat * 256 + t2.toNat :=
    operand_pair (pre := [0x43]) rfl rfl
  refine decode_cons_eq_badOperand formatOf_mqPublish (by simp [Format.fixedLength]; omega) ?_
  simp only [Format.requiredLength, htopic, List.length_cons]
  omega

section

variable {t1 t2 d1 d2 : Byte} {topic data : List Byte}

theorem operand_mqPublish (htopic : topic.length = t1.toNat * 256 + t2.toNat) :
    operand (0x43 :: t1 :: t2 :: (topic ++ d1 :: d2 :: data)) 1 2 = topic.length
      ∧ operand (0x43 :: t1 :: t2 :: (topic ++ d1 :: d2 :: data)) (3 + topic.length) 2
        = d1.toNat * 256 + d2.toNat := by
  refine ⟨(operand_pair (pre := [0x43]) rfl rfl).trans htopic.symm, ?_⟩
  exact operand_pair (pre := 0x43 :: t1 :: t2 :: topic) (suf := data) (by simp) (by simp; omega)

theorem length_mqPublish_iff (htopic : topic.length = t1.toNat * 256 + t2.toNat) :
    (0x43 :: t1 :: t2 :: (topic ++ d1 :: d2 :: data)).length
        = (Format.ss .mqPublish).requiredLength (0x43 :: t1 :: t2 :: (topic ++ d1 :: d2 :: data))
      ↔ data.length = d1.toNat * 256 + d2.toNat := by
  obtain ⟨hfirst, hsecond⟩ := operand_mqPublish (d1 := d1) (d2 := d2) (data := data) htopic
  simp only [Format.requiredLength, hfirst, hsecond, List.length_cons, List.length_append]
  omega

theorem assemble_mqPublish (htopic : topic.length = t1.toNat * 256 + t2.toNat)
    (hdata : data.length = d1.toNat * 256 + d2.toNat) :
    (Format.ss .mqPublish).assemble (0x43 :: t1 :: t2 :: (topic ++ d1 :: d2 :: data)) = .mqPublish topic data := by
  obtain ⟨hfirst, hsecond⟩ := operand_mqPublish (d1 := d1) (d2 := d2) (data := data) htopic
  have hbehind : (0x43 :: t1 :: t2 :: (topic ++ d1 :: d2 :: data)).drop (5 + topic.length) = data :=
    (congrArg (List.drop _) (by simp : _ = (0x43 :: t1 :: t2 :: (topic ++ [d1, d2])) ++ data)).trans
      (List.drop_left' (by simp; omega))
  rw [Format.assemble, hfirst, hsecond, hbehind, ← hdata, List.take_length]
  simp

end

/-- Settles O19: the required length is read from the length fields, which stand where the strings before them
end. -/
theorem lengthCheckOfStringFormats : Obligations.LengthCheckOfStringFormats := by
  refine ⟨fun op l1 l2 data hop => ?_, fun args hshort => ?_, fun t1 t2 rest => decode_mqPublish_of_short_topic,
    fun t1 t2 d1 d2 topic data htopic => ⟨fun hother => ?_, fun hexact => ?_⟩⟩
  · obtain ⟨k, hfmt⟩ := formatOf_of_string hop
    exact decode_format_s hfmt l1 l2 data
  · exact decode_cons_eq_illegalOpcode formatOf_mqPublish (Nat.succ_lt_succ hshort)
  · exact decode_cons_eq_badOperand formatOf_mqPublish (by simp [Format.fixedLength]; omega)
      (mt (length_mqPublish_iff htopic).mp hother)
  · rw [decode_cons_of_length formatOf_mqPublish (by simp [Format.fixedLength]; omega)
      ((length_mqPublish_iff htopic).mpr hexact), assemble_mqPublish htopic hexact]

/-- Settles O20: one command of each family, in the format of its opcode. -/
theorem sampleCommandsDecode : Obligations.SampleCommandsDecode :=
  ⟨decode_of_format_w rfl 0x00 0x020304050607, decode_acc 1520 3, decode_of_format_z rfl,
    decode_buildArpRequest 0xC0A8010A,
    decode_of_format_ss (topic := [0x61, 0x2F, 0x62]) (data := [0x68, 0x69]) rfl (by decide) (by decide),
    decode_of_format_z rfl⟩

end Sys2Proof

/-! PROOFS. A step of the machine (20_memory.md R79, 30_encoding.md R100, R101): it always goes on, it is the
decoded command with its response record, or the decoder's precise fault, and it keeps the invariant. -/

namespace Sys2Proof.Machine

/-! ### The three kinds of step -/

/-- No command stops the CORE (60_exceptions.md R280). -/
theorem exists_exec_eq_next (i : Instr) (s : State) : ∃ t, exec i s = .next t := by
  cases i <;> exact ⟨_, rfl⟩

section

variable {s : State}

theorem step_of_empty (h : s.inbox = []) : step s = .next s := by
  simp [step, State.takeInput, h]

theorem step_of_reset {rest : List HostInput} (h : s.inbox = .reset :: rest) :
    step s = .next ({ s with inbox := rest } : State).applyReset := by
  simp [step, State.takeInput, h]

theorem runCommand_of_command {bytes : List Byte} {i : Instr} {u : State} (hdecode : decode bytes = .command i)
    (hexec : exec i s = .next u) : runCommand bytes s = .next u.respond := by
  simp [runCommand, hdecode, hexec, respondTo]

theorem runCommand_of_badOperand {bytes : List Byte} (h : decode bytes = .badOperand) :
    runCommand bytes s = .next (s.raise .badOperand).respond := by
  simp [runCommand, h, respondTo]

/-- All that a command byte string can do: its command, or a fault of the decoder, and then the response record
(R101, R104). -/
theorem runCommand_cases (bytes : List Byte) (s : State) :
    ∃ u, runCommand bytes s = .next u.respond ∧ ((∃ i, exec i s = .next u) ∨ ∃ f, u = s.raise f) := by
  cases hdecode : decode bytes with
  | command i =>
    obtain ⟨u, hexec⟩ := exists_exec_eq_next i s
    exact ⟨u, runCommand_of_command hdecode hexec, .inl ⟨i, hexec⟩⟩
  | illegalOpcode => exact ⟨_, runCommand_of_illegalOpcode hdecode s, .inr ⟨_, rfl⟩⟩
  | badOperand => exact ⟨_, runCommand_of_badOperand hdecode, .inr ⟨_, rfl⟩⟩

end

/-- Settles O1: an empty inbox, the reset input and a command each have their next state. -/
theorem everyStepGoesOn : Obligations.EveryStepGoesOn := by
  intro s
  cases hinbox : s.inbox with
  | nil => exact ⟨_, step_of_empty hinbox⟩
  | cons input rest =>
    cases input with
    | reset => exact ⟨_, step_of_reset hinbox⟩
    | command bytes =>
      obtain ⟨u, hrun, -⟩ := runCommand_cases bytes { s with inbox := rest }
      exact ⟨_, (step_of_command hinbox).trans hrun⟩

/-- Settles O2: the oldest command, taken from the inbox, run and recorded. -/
theorem stepRunsTheDecodedCommand : Obligations.StepRunsTheDecodedCommand := by
  intro s u bytes rest i hinbox hdecode hexec
  exact (step_of_command hinbox).trans (runCommand_of_command hdecode hexec)

/-- Settles O3: what the decoder rejects is raised on the state without the command, and recorded. -/
theorem decoderFaultsArePrecise : Obligations.DecoderFaultsArePrecise := by
  intro s bytes rest f hinbox hverdict
  refine ⟨_, (step_of_command hinbox).trans ?_, s.respond_raise_stepFaulted f rest⟩
  obtain ⟨hillegal, rfl⟩ | ⟨hbad, rfl⟩ := hverdict
  · exact runCommand_of_illegalOpcode hillegal _
  · exact runCommand_of_badOperand hbad

/-- Settles O4: an empty inbox is no transaction. -/
theorem waitingCoreHoldsItsState : Obligations.WaitingCoreHoldsItsState := fun _ => step_of_empty

/-- Settles O6: the reset state of the next epoch, with the environment's fields carried over. -/
theorem resetInputResetsTheCore : Obligations.ResetInputResetsTheCore := by
  intro s rest hinbox
  exact ⟨_, step_of_reset hinbox, rfl, rfl, rfl, rfl, rfl, rfl, rfl, rfl, rfl, rfl, rfl, rfl, rfl, rfl⟩

/-! ### The fields the invariant speaks of -/

section

variable {s t : State}

theorem State.Bounded.of_eq (h : s.Bounded) (hpb : t.pb = s.pb) (hpsb : t.psb = s.psb) (hrx : t.rxLen = s.rxLen)
    (hlen : t.psbLen = s.psbLen) : t.Bounded where
  pbWf := hpb ▸ h.pbWf
  pbWithin := hpb ▸ h.pbWithin
  psbWf := hpsb ▸ h.psbWf
  psbWithin := hpsb ▸ h.psbWithin
  rxLenLe := hrx ▸ h.rxLenLe
  psbLenLe := hlen ▸ h.psbLenLe

theorem State.StatusConsistent.of_eq (h : s.StatusConsistent) (herr : t.err = s.err)
    (hflt : t.flags.flt = s.flags.flt) (htxok : t.flags.txok = s.flags.txok) : t.StatusConsistent where
  faultSetsFlt := by rw [herr, hflt]; exact h.faultSetsFlt
  abortClearsTxok := by rw [herr, htxok]; exact h.abortClearsTxok

/-- `OK` in `ERR` asks nothing of the flags. -/
theorem State.StatusConsistent.of_ok (h : t.err = .ok) : t.StatusConsistent where
  faultSetsFlt := by simp [h]
  abortClearsTxok := by simp [h]

/-- A buffer, a length, a status register or the transmit log has to change before the invariant can fail. -/
theorem State.Inv.of_eq (h : s.Inv) (hpb : t.pb = s.pb) (hpsb : t.psb = s.psb) (hrx : t.rxLen = s.rxLen)
    (hlen : t.psbLen = s.psbLen) (herr : t.err = s.err) (hflt : t.flags.flt = s.flags.flt)
    (htxok : t.flags.txok = s.flags.txok) (hlog : t.txLog = s.txLog) : t.Inv where
  bounded := h.bounded.of_eq hpb hpsb hrx hlen
  status := h.status.of_eq herr hflt htxok
  frames := fun r hr => h.frames r (hlog ▸ hr)

end

/-! ### The invariant after reset -/

theorem State.afterReset_inv (epoch : Nat) : (State.afterReset epoch).Inv where
  bounded := ⟨rfl, rfl, rfl, rfl, Nat.zero_le _, Nat.zero_le _⟩
  status := .of_ok rfl
  frames := nofun

/-- Settles O7: the state after every reset meets the invariant. -/
theorem resetStateIsWellKept : Obligations.ResetStateIsWellKept := State.afterReset_inv 0

theorem State.applyReset_inv (s : State) : s.applyReset.Inv :=
  (State.afterReset_inv (s.epoch + 1)).of_eq rfl rfl rfl rfl rfl rfl rfl rfl

/-! ### What the shared operations keep of the invariant -/

section

variable {s t : State}

/-- A frame written in `PB` keeps the invariant when it stays inside `PB`. -/
theorem State.Inv.of_pbOnly (h : s.Inv) (hpb : s.PbOnly t) (hbounded : t.Bounded) : t.Inv where
  bounded := hbounded
  status := h.status.of_eq (by rw [hpb]) (by rw [hpb]) (by rw [hpb])
  frames := by rw [hpb]; exact h.frames

theorem State.Inv.raise (h : s.Inv) (f : CmdFault) : (s.raise f).Inv where
  bounded := h.bounded.of_eq rfl rfl rfl rfl
  status := ⟨fun _ _ => rfl, nofun⟩
  frames := h.frames

theorem State.Inv.complete (h : s.Inv) : s.complete.Inv where
  bounded := h.bounded.of_eq rfl rfl rfl rfl
  status := .of_ok rfl
  frames := h.frames

theorem State.Inv.withResult (h : s.Inv) (v : Nat) : (s.withResult v).Inv := h.of_eq rfl rfl rfl rfl rfl rfl rfl rfl

theorem State.Inv.withMatch (h : s.Inv) (p : Bool) : (s.withMatch p).Inv := h.of_eq rfl rfl rfl rfl rfl rfl rfl rfl

theorem State.Inv.classify (h : s.Inv) (p : Bool) : (s.classify p).Inv := (h.withMatch p).complete

theorem State.Inv.stay (h : s.Inv) : s.stay.Inv := (h.withMatch false).complete

theorem State.Inv.recordLength (h : s.Inv) (p : Bool) : (s.recordLength p).Inv := by
  cases p with
  | false => exact h
  | true => exact h.of_eq rfl rfl rfl rfl rfl rfl rfl rfl

theorem State.Inv.loadContext (h : s.Inv) : s.loadContext.Inv := h.of_eq rfl rfl rfl rfl rfl rfl rfl rfl

theorem State.Inv.pollOverflow (h : s.Inv) : s.pollOverflow.Inv := h.of_eq rfl rfl rfl rfl rfl rfl rfl rfl

theorem State.Inv.advance (h : s.Inv) (q : FsmState) : (s.advance q).Inv := h.of_eq rfl rfl rfl rfl rfl rfl rfl rfl

theorem State.Inv.respond (h : s.Inv) : s.respond.Inv := h.of_eq rfl rfl rfl rfl rfl rfl rfl rfl

theorem State.Inv.writeReg (h : s.Inv) (r : Reg) (val : BitVec 48) : (s.writeReg r val).Inv := by
  cases r <;> exact h.of_eq rfl rfl rfl rfl rfl rfl rfl rfl

theorem State.Inv.sum (h : s.Inv) (x : BitVec 32) : ({ s with sum := x } : State).Inv :=
  h.of_eq rfl rfl rfl rfl rfl rfl rfl rfl

theorem State.Inv.brokerMac (h : s.Inv) (mac : BitVec 48) : ({ s with brokerMac := mac } : State).Inv :=
  h.of_eq rfl rfl rfl rfl rfl rfl rfl rfl

theorem State.Inv.tcpNumbers (h : s.Inv) (ack seq : BitVec 32) :
    ({ s with tcpAck := ack, tcpSeq := seq } : State).Inv :=
  h.of_eq rfl rfl rfl rfl rfl rfl rfl rfl

theorem State.Inv.pbStore (h : s.Inv) {a : Nat} {bs : List Byte} (hfits : a + bs.length ≤ Config.pbCap) :
    (s.pbStore a bs).Inv :=
  h.of_pbOnly (s.pbStore_pbOnly a bs) (h.bounded.pbStore a bs hfits)

theorem State.Inv.psbStore (h : s.Inv) {a : Nat} {bs : List Byte} (hfits : a + bs.length ≤ Config.psbCap) :
    (s.psbStore a bs).Inv where
  bounded := h.bounded.psbStore a bs hfits
  status := h.status.of_eq rfl rfl rfl
  frames := h.frames

/-- A recorded length within `PB` (10_state.md R39). -/
theorem State.Inv.rxLen (h : s.Inv) {n : Nat} (hn : n ≤ Config.pbCap) :
    ({ s with rxLen := BitVec.ofNat 16 n } : State).Inv where
  bounded :=
    { h.bounded with
      rxLenLe := by rw [BitVec.toNat_ofNat]; exact (Nat.mod_le _ _).trans hn }
  status := h.status.of_eq rfl rfl rfl
  frames := h.frames

/-- A recorded length within `PSB` (10_state.md R40). -/
theorem State.Inv.psbLen (h : s.Inv) {n : Nat} (hn : n ≤ Config.psbCap) :
    ({ s with psbLen := BitVec.ofNat 16 n } : State).Inv where
  bounded :=
    { h.bounded with
      psbLenLe := by rw [BitVec.toNat_ofNat]; exact (Nat.mod_le _ _).trans hn }
  status := h.status.of_eq rfl rfl rfl
  frames := h.frames

theorem State.Inv.construct (h : s.Inv) {bs : List Byte} (hfits : bs.length ≤ Config.psbCap) :
    (s.construct bs).Inv :=
  (((h.psbStore (by omega)).psbLen hfits).withResult _).complete

/-- `Transmit(n)` of a frame of 1 to 1522 bytes (42_builders.md R180): `ERR` and `TXOK` both report the answer. -/
theorem State.Inv.transmit (h : s.Inv) {n : Nat} (hpos : 1 ≤ n) (hfits : n ≤ Config.pbCap) : (s.transmit n).Inv where
  bounded := h.bounded.of_eq rfl rfl rfl rfl
  status := by
    constructor <;> cases hanswer : s.nextTxAnswer <;> simp [hanswer]
  frames := by
    intro r hr
    rw [State.transmit_txLog, List.mem_append, List.mem_singleton] at hr
    obtain hold | rfl := hr
    · exact h.frames r hold
    · rw [State.pbBytes_length]
      exact ⟨hpos, hfits⟩

theorem State.Inv.ite {c : Prop} [Decidable c] (h : c → s.Inv) (k : ¬ c → t.Inv) : (if c then s else t).Inv := by
  split
  next hc => exact h hc
  next hc => exact k hc

theorem State.Inv.of_next {u : State} (h : u.Inv)
    (e : (.next u : Host.Outcome State Fault Refusal) = .next t) : t.Inv := by
  cases e
  exact h

end

/-- A command behind the layer-4 checks: the fault, or what runs when no check stops it. -/
theorem State.Inv.l4Checked {s t : State} {least : Nat} (h : s.Inv) (k : s.l4Fault least = none → t.Inv) :
    (match s.l4Fault least with | some f => s.raise f | none => t).Inv := by
  cases hfault : s.l4Fault least with
  | none => exact k hfault
  | some f => exact h.raise f

/-- A command that takes a register by number: the fault, or what it does with the register. -/
theorem State.Inv.regOperand {s : State} (h : s.Inv) (reg : Option Reg) {use : Reg → State}
    (k : ∀ r, (use r).Inv) : (match reg with | none => s.raise .badOperand | some r => use r).Inv := by
  cases reg with
  | none => exact h.raise _
  | some r => exact k r

/-! ### The frames stay inside `PB` (20_memory.md R65) -/

theorem State.l4Base_le (s : State) : s.l4Base ≤ 74 := by
  have := s.ihl_le
  unfold State.l4Base
  omega

section

variable {s : State}

/-- A checksum field of a layer-4 header is near the front of the buffer. -/
theorem State.Bounded.inject_l4 (h : s.Bounded) {k : Nat} (hk : k ≤ 16) (sumOf : State → BitVec 32) :
    (s.inject (s.l4Base + k) sumOf).Bounded :=
  h.inject _ sumOf (by have := s.l4Base_le; unfold Config.pbCap; omega)

theorem State.Bounded.swapped (h : s.Bounded) : s.swapEth.swapIp.Bounded :=
  (h.memWrites _ (by simp [Config.pbCap])).memWrites _ (by simp [Config.pbCap])

theorem State.Bounded.icmpReplyFrame (h : s.Bounded) : s.icmpReplyFrame.Bounded :=
  (h.swapped.memWrite _ _ _ (by have := s.swapEth.swapIp.l4Base_le; unfold Config.pbCap; omega)).inject_l4
    (by decide) _

theorem State.Bounded.udpReplyFrame (h : s.Bounded) {u n : Nat} (hfits : u + 8 + n ≤ 1522) :
    (s.udpReplyPayload u n).injectUdp.Bounded := by
  have hports : (s.udpReplyPorts u n).Bounded := h.swapped.memWrites _ (by simp [Config.pbCap]; omega)
  have hheader : (s.udpReplyHeader u n).Bounded := (hports.memWrite _ _ _ (by decide)).inject 24 _ (by decide)
  have hpayload : (s.udpReplyPayload u n).Bounded := hheader.pbStore _ _ (by simpa [Config.pbCap] using hfits)
  exact hpayload.inject_l4 (by decide) _

theorem tcpHeaderLength_le (f : Nat) : tcpHeaderLength f ≤ 24 := by
  unfold tcpHeaderLength
  split <;> omega

/-- Only PUSH-ACK carries the payload, and it carries no option (42_builders.md R186). -/
theorem State.tcpLength_le (h : s.psbLen.toNat ≤ 1468) (f : Nat) :
    34 + tcpHeaderLength f + s.tcpPayloadLength f ≤ 1522 := by
  by_cases hpush : f = flagPushAck
  · subst hpush
    rw [State.tcpPayloadLength, if_pos rfl, tcpHeaderLength, if_neg (by decide)]
    omega
  · have := tcpHeaderLength_le f
    rw [State.tcpPayloadLength, if_neg hpush]
    omega

theorem State.Bounded.tcpFrame (h : s.Bounded) (f : Nat) : (s.tcpFrame f).Bounded := by
  have hip : (s.tcpIpHeader f).Bounded := h.memWrites _ (by simp [Config.pbCap])
  have htcp : (s.tcpHeader f).Bounded := hip.memWrites _ (by split <;> simp [Config.pbCap])
  have hpayload := htcp.pbStore (34 + tcpHeaderLength f) (s.psbBytes 0 (s.tcpPayloadLength f))
    (by simpa [Config.pbCap] using s.tcpLength_le h.psbLenLe f)
  exact (hpayload.inject 24 _ (by decide)).inject_l4 (by decide) _

end

/-! ### The packets stay inside `PSB` -/

theorem topicPacket_length (first : Byte) (topic : List Byte) :
    (topicPacket first topic).length = topic.length + 7 := by
  simp [topicPacket]
  omega

theorem publishPacket_length (topic data : List Byte) :
    (publishPacket topic data).length = topic.length + data.length + 4 := by
  simp [publishPacket]
  omega

/-! ### Every command keeps the invariant -/

section

variable {s t : State}

theorem State.Inv.constructWithin (h : s.Inv) {rl : Nat} {bs : List Byte} (hbs : bs.length ≤ rl + 2) :
    (s.constructWithin rl bs).Inv :=
  .ite (fun _ => h.raise _) (fun hrl => h.construct (by unfold Config.psbCap; omega))

theorem State.Inv.injectCommand (h : s.Inv) {f : Nat} (sumOf : State → BitVec 32) (hf : f ≤ 90) :
    (s.injectCommand f sumOf).Inv :=
  ((h.of_pbOnly (s.inject_pbOnly f sumOf) (h.bounded.inject f sumOf (by unfold Config.pbCap; omega))).withResult
    _).complete

theorem State.Inv.sendArpRequest (h : s.Inv) (ip : BitVec 32) : (s.sendArpRequest ip).Inv :=
  (h.of_pbOnly (s.arpRequestFrame_pbOnly ip) (h.bounded.memWrites _ (by simp [Config.pbCap]))).transmit
    (by decide) (by decide)

theorem State.Inv.sendTcpSegment (h : s.Inv) (f : Nat) : (s.sendTcpSegment f).Inv := by
  have hlength := s.tcpLength_le h.bounded.psbLenLe f
  exact (h.of_pbOnly (s.tcpFrame_pbOnly f) (h.bounded.tcpFrame f)).transmit (by omega) (by unfold Config.pbCap; omega)

/-- `BuildIcmpEchoReply` sends no more than it has checked (42_builders.md R184). -/
theorem execBuildIcmpEchoReply_inv (h : s.Inv) (hexec : execBuildIcmpEchoReply s = .next t) : t.Inv :=
  (h.l4Checked fun _ => .ite (fun _ => h.raise _) fun hfits =>
    (h.of_pbOnly s.icmpReplyFrame_pbOnly h.bounded.icmpReplyFrame).transmit (by omega) (by omega)).of_next hexec

theorem execBuildUdpReply_inv (h : s.Inv) (hexec : execBuildUdpReply s = .next t) : t.Inv :=
  (State.Inv.ite (fun _ => h.raise _) fun hfits => .ite (fun _ => h.raise _) fun _ =>
    (h.of_pbOnly (s.udpReplyFrame_pbOnly _ _) (h.bounded.udpReplyFrame (Nat.not_lt.mp hfits))).transmit
      (by omega) (Nat.not_lt.mp hfits)).of_next hexec

/-- Every row of the state machine keeps the invariant (44_fsm.md R232). -/
theorem execFsmStep_inv (h : s.Inv) (hexec : execFsmStep s = .next t) : t.Inv := by
  obtain rfl := Host.Outcome.next.inj hexec
  cases s.fsm with
  | idle | tcpConnectionActive => exact h.stay
  | sendArpRequest => exact (h.sendArpRequest _).advance _
  | sendTcpSyn | sendTcpAck => exact (h.loadContext.complete.sendTcpSegment _).advance _
  | waitArpResponse =>
    exact .ite (fun _ => ((h.brokerMac _).advance _).complete) (fun _ => h.stay)
  | waitTcpSynAck =>
    exact .ite (fun _ => ((h.tcpNumbers _ _).advance _).complete) (fun _ => h.stay)

end

theorem exec_keeps_inv {i : Instr} {s t : State} (h : s.Inv) (hexec : exec i s = .next t) : t.Inv := by
  cases i with
  | rd reg => exact (h.regOperand _ fun r => (h.withResult _).complete).of_next hexec
  | wr reg val => exact (h.regOperand _ fun r => (h.writeReg r val).complete).of_next hexec
  | ipvalid reg => exact (h.regOperand _ fun r => (h.withMatch _).complete).of_next hexec
  | ctxLoad => exact h.loadContext.complete.of_next hexec
  | rxLoad data =>
    exact (State.Inv.ite (fun _ => h.raise _) fun hfits =>
      ((h.pbStore (by omega)).rxLen (Nat.not_lt.mp hfits)).complete).of_next hexec
  | psbLoad data =>
    exact (State.Inv.ite (fun _ => h.raise _) fun hfits =>
      ((h.psbStore (by omega)).psbLen (Nat.not_lt.mp hfits)).complete).of_next hexec
  | rxOvf => exact h.pollOverflow.complete.of_next hexec
  | pbRd off | psbRd off =>
    exact (State.Inv.ite (fun _ => h.raise _) fun _ => (h.withResult _).complete).of_next hexec
  | pbWr off byte =>
    exact (State.Inv.ite (fun _ => h.raise _) fun hinside =>
      (h.pbStore (Nat.not_le.mp hinside)).complete).of_next hexec
  | acc off cnt =>
    exact (State.Inv.ite (fun _ => h.raise _) fun _ => (h.sum _).complete).of_next hexec
  | fold => exact (h.withResult _).complete.of_next hexec
  | ckIp => exact (h.injectCommand _ (by decide)).of_next hexec
  | ckIcmp | ckUdp | ckTcp =>
    have hbase := s.l4Base_le
    exact (h.l4Checked fun _ => h.injectCommand _ (by omega)).of_next hexec
  | isIp | isIpUnicast | isArpRequest | isArpReply | isPingRequest | isUdp | isTcp | isTcpAck | isTcpFinAck
  | isTcpResetAck | isMqttConnectAck => exact (h.classify _).of_next hexec
  | isMqttSubAck | isMqttUnSubAck | isMqttPublish => exact ((h.recordLength _).classify _).of_next hexec
  | buildArpReply =>
    exact ((h.of_pbOnly s.arpReplyFrame_pbOnly (h.bounded.memWrites _ (by simp [Config.pbCap]))).transmit
      (by decide) (by decide)).of_next hexec
  | buildArpRequest ip => exact (h.sendArpRequest ip).of_next hexec
  | buildIcmpEchoReply => exact execBuildIcmpEchoReply_inv h hexec
  | buildUdpReply => exact execBuildUdpReply_inv h hexec
  | buildTcpSegment flags =>
    exact (State.Inv.ite (fun _ => h.sendTcpSegment _) fun _ => h.raise _).of_next hexec
  | mqConnect | mqDisconnect => exact (h.construct (by simp [connectPacket, Config.psbCap])).of_next hexec
  | mqSubscribe topic | mqUnsubscribe topic =>
    exact (h.constructWithin (topicPacket_length _ topic).le).of_next hexec
  | mqPublish topic data =>
    exact (h.constructWithin (by rw [publishPacket_length]; omega)).of_next hexec
  | fsmConnect =>
    exact (State.Inv.ite (fun _ => (h.advance _).complete) fun _ => h.stay).of_next hexec
  | fsmStep => exact execFsmStep_inv h hexec

/-- Settles O8: the reset input starts the invariant anew, and a command, or the decoder's fault, keeps it on the
state without the command. -/
theorem everyStepKeepsTheInvariant : Obligations.EveryStepKeepsTheInvariant := by
  intro s t h hstep
  cases hinbox : s.inbox with
  | nil => exact h.of_next ((step_of_empty hinbox).symm.trans hstep)
  | cons input rest =>
    cases input with
    | reset => exact (State.applyReset_inv _).of_next ((step_of_reset hinbox).symm.trans hstep)
    | command bytes =>
      have htaken : ({ s with inbox := rest } : State).Inv := h.of_eq rfl rfl rfl rfl rfl rfl rfl rfl
      obtain ⟨u, hrun, hcause⟩ := runCommand_cases bytes { s with inbox := rest }
      rw [step_of_command hinbox, hrun] at hstep
      obtain ⟨i, hexec⟩ | ⟨f, rfl⟩ := hcause
      · exact (exec_keeps_inv htaken hexec).respond.of_next hstep
      · exact (htaken.raise f).respond.of_next hstep

end Sys2Proof.Machine

/-! PROOFS. How a command ends (60_exceptions.md R280, R283, R290), and the rows of the state machine in order
(44_fsm.md R230). -/

namespace Sys2Proof.Machine

/-! ### Completion and fault -/

/-- The command has run to its end: `OK`, or `TX_ABORT` with the driver's refusal in `TXOK`, and `FLT` kept. -/
def Completed (s t : State) : Prop :=
  (t.err = .ok ∨ t.err = .txAbort ∧ t.flags.txok = false) ∧ t.flags.flt = s.flags.flt

/-- The command has run to its end, or has taken a precise fault. -/
def Ended (s t : State) : Prop := Completed s t ∨ ∃ f, Faulted f s t

section

variable {s t : State}

theorem Ended.of_ok (herr : t.err = .ok) (hflt : t.flags.flt = s.flags.flt) : Ended s t := .inl ⟨.inl herr, hflt⟩

theorem Ended.raise (s : State) (f : CmdFault) : Ended s (s.raise f) := .inr ⟨f, s.raise_faulted f⟩

/-- `ERR` and `TXOK` report one answer (42_builders.md R180). -/
theorem Sent.completed {n : Nat} {l : List Reg} (h : Sent n l s t) : Completed s t := by
  refine ⟨?_, h.flt⟩
  cases hanswer : s.nextTxAnswer with
  | true => exact .inl (by rw [h.err, hanswer, if_pos rfl])
  | false => exact .inr ⟨by rw [h.err, hanswer]; rfl, by rw [h.txok, hanswer]⟩

theorem State.PbOnly.ended (h : s.PbOnly t) (n : Nat) : Ended s (t.transmit n) := .inl (h.sent n).completed

/-- A transition writes neither `ERR` nor the two flags (44_fsm.md R232). -/
theorem Completed.advance (h : Completed s t) (q : FsmState) : Completed s (t.advance q) := by
  rw [Completed, State.advance_err, State.advance_flags]
  exact h

theorem Ended.ite {c : Prop} [Decidable c] {u : State} (h : Ended s t) (k : Ended s u) :
    Ended s (if c then t else u) := by
  split
  · exact h
  · exact k

theorem Ended.l4Checked (fault : Option CmdFault) (h : Ended s t) :
    Ended s (match fault with | some f => s.raise f | none => t) := by
  cases fault with
  | none => exact h
  | some f => exact .raise s f

theorem Ended.regOperand (reg : Option Reg) {use : Reg → State} (h : ∀ r, Ended s (use r)) :
    Ended s (match reg with | none => s.raise .badOperand | some r => use r) := by
  cases reg with
  | none => exact .raise s _
  | some r => exact h r

end

section

variable (s : State)

@[simp] theorem State.writeReg_flags (r : Reg) (val : BitVec 48) : (s.writeReg r val).flags = s.flags := by
  cases r <;> rfl

theorem State.classify_ended (p : Bool) : Ended s (s.classify p) := .of_ok rfl rfl

theorem State.stay_ended : Ended s s.stay := .of_ok rfl rfl

theorem State.constructWithin_ended (rl : Nat) (bs : List Byte) : Ended s (s.constructWithin rl bs) :=
  .ite (.raise s _) (.of_ok rfl rfl)

theorem State.sendOnContext_completed (f : Nat) (q : FsmState) :
    Completed s ((s.loadContext.complete.sendTcpSegment f).advance q) :=
  Completed.advance (s := s) (s.loadContext.complete.sendTcpSegment_sent f).completed q

theorem execFsmStep_ended {t : State} (h : execFsmStep s = .next t) : Ended s t := by
  obtain rfl := Host.Outcome.next.inj h
  cases s.fsm with
  | idle | tcpConnectionActive => exact s.stay_ended
  | sendArpRequest => exact .inl ((s.sendArpRequest_sent _).completed.advance _)
  | sendTcpSyn | sendTcpAck => exact .inl (s.sendOnContext_completed _ _)
  | waitArpResponse | waitTcpSynAck => exact .ite (.of_ok rfl rfl) s.stay_ended

end

/-- Settles O9: a command completes, sends and reports the answer, or raises a fault on the state it found. -/
theorem commandsCompleteOrFaultPrecisely : Obligations.CommandsCompleteOrFaultPrecisely := by
  intro i s t h
  change Ended s t
  cases i with
  | rd reg | ipvalid reg =>
    obtain rfl := Host.Outcome.next.inj h
    exact .regOperand _ fun r => .of_ok rfl rfl
  | wr reg val =>
    obtain rfl := Host.Outcome.next.inj h
    exact .regOperand _ fun r => .of_ok rfl (congrArg Flags.flt (s.writeReg_flags r val))
  | ctxLoad | rxOvf | fold | ckIp | mqConnect | mqDisconnect =>
    obtain rfl := Host.Outcome.next.inj h
    exact .of_ok rfl rfl
  | rxLoad data | psbLoad data | pbRd off | psbRd off | pbWr off byte | acc off cnt =>
    obtain rfl := Host.Outcome.next.inj h
    exact .ite (.raise s _) (.of_ok rfl rfl)
  | ckIcmp | ckUdp | ckTcp =>
    obtain rfl := Host.Outcome.next.inj h
    exact .l4Checked _ (.of_ok rfl rfl)
  | isIp | isIpUnicast | isArpRequest | isArpReply | isPingRequest | isUdp | isTcp | isTcpAck | isTcpFinAck
  | isTcpResetAck | isMqttConnectAck =>
    obtain rfl := Host.Outcome.next.inj h
    exact s.classify_ended _
  | isMqttSubAck | isMqttUnSubAck | isMqttPublish =>
    obtain rfl := Host.Outcome.next.inj h
    exact .of_ok (State.classify_err _ _) (by rw [State.classify_flags, State.recordLength_flags])
  | buildArpReply =>
    obtain rfl := Host.Outcome.next.inj h
    exact s.arpReplyFrame_pbOnly.ended _
  | buildArpRequest ip =>
    obtain rfl := Host.Outcome.next.inj h
    exact (s.arpRequestFrame_pbOnly ip).ended _
  | buildIcmpEchoReply =>
    obtain rfl := Host.Outcome.next.inj h
    exact .l4Checked _ (.ite (.raise s _) (s.icmpReplyFrame_pbOnly.ended _))
  | buildUdpReply =>
    obtain rfl := Host.Outcome.next.inj h
    exact .ite (.raise s _) (.ite (.raise s _) ((s.udpReplyFrame_pbOnly _ _).ended _))
  | buildTcpSegment flags =>
    obtain rfl := Host.Outcome.next.inj h
    exact .ite ((s.tcpFrame_pbOnly _).ended _) (.raise s _)
  | mqSubscribe topic | mqUnsubscribe topic | mqPublish topic data =>
    obtain rfl := Host.Outcome.next.inj h
    exact s.constructWithin_ended _ _
  | fsmConnect =>
    obtain rfl := Host.Outcome.next.inj h
    exact .ite (.of_ok rfl rfl) s.stay_ended
  | fsmStep => exact execFsmStep_ended s h

/-! ### The rows in order -/

/-- The next row has the next number, where there is one (R230, R238). -/
theorem FsmState.number_successor {q : FsmState} (h : q.successor ≠ q) :
    q ≠ .idle ∧ q.successor.number.toNat = q.number.toNat + 1 := by
  cases q with
  | idle | tcpConnectionActive => exact absurd rfl h
  | _ => exact ⟨nofun, rfl⟩

/-- Settles O11: `FSM.CONNECT` leaves `Idle` for the first row, and `FSM.STEP` goes to the successor. -/
theorem fsmMovesOneRowForward : Obligations.FsmMovesOneRowForward := by
  intro i s t h hmoved
  obtain hsame | hconnect | ⟨rfl, hnext⟩ := exec_fsm_cases h
  · exact absurd hsame hmoved
  · exact .inl hconnect
  · rw [hnext] at hmoved ⊢
    exact .inr ⟨rfl, FsmState.number_successor hmoved⟩

end Sys2Proof.Machine

/-! PROOFS. What no command but a few reads (10_state.md R23, R24, R27, R38, R39, 42_builders.md R180): `SUM`, the
three stored-only configuration registers, `RX_LEN` and the driver's coming answers. Other values are laid over
these fields, and every shared operation is shown once to do the same under them. -/

namespace Sys2Proof.Machine

/-! ### Values laid over the fields -/

/-- For each of the fields, what is laid over it. -/
structure Overlay where
  sum : BitVec 32 → BitVec 32
  subnetMask : BitVec 32 → BitVec 32
  gatewayIp : BitVec 32 → BitVec 32
  dhcpEn : BitVec 1 → BitVec 1
  rxLen : BitVec 16 → BitVec 16
  txAnswers : List Bool → List Bool

/-- The state under an overlay. -/
def State.overlay (s : State) (o : Overlay) : State :=
  { s with
    sum := o.sum s.sum
    subnetMask := o.subnetMask s.subnetMask
    gatewayIp := o.gatewayIp s.gatewayIp
    dhcpEn := o.dhcpEn s.dhcpEn
    rxLen := o.rxLen s.rxLen
    txAnswers := o.txAnswers s.txAnswers }

/-- The overlay leaves the fields the command reads or writes of them: `RD` and `WR` any register, `IPVALID` two of
the addresses, `RX.LOAD` `RX_LEN`, `ACC` and `FOLD` `SUM`, and the others none. -/
def Overlay.HiddenFrom (o : Overlay) : Instr → Prop
  | .rd _ | .wr _ _ => o.sum = id ∧ o.subnetMask = id ∧ o.gatewayIp = id ∧ o.dhcpEn = id ∧ o.rxLen = id
  | .ipvalid _ => o.subnetMask = id ∧ o.gatewayIp = id
  | .rxLoad _ => o.rxLen = id
  | .acc _ _ | .fold => o.sum = id
  | _ => True

section

variable (s : State) (o : Overlay)

/-! ### What is read under an overlay -/

@[simp] theorem State.overlay_pbAt (k : Nat) : (s.overlay o).pbAt k = s.pbAt k := by rfl
@[simp] theorem State.overlay_memRead (a n : Nat) : (s.overlay o).memRead a n = s.memRead a n := by rfl
@[simp] theorem State.overlay_psbBytes (a n : Nat) : (s.overlay o).psbBytes a n = s.psbBytes a n := by rfl
@[simp] theorem State.overlay_acc (a n : Nat) (x : BitVec 32) : (s.overlay o).acc a n x = s.acc a n x := by rfl
@[simp] theorem State.overlay_ihl : (s.overlay o).ihl = s.ihl := by rfl
@[simp] theorem State.overlay_ipTotLen : (s.overlay o).ipTotLen = s.ipTotLen := by rfl
@[simp] theorem State.overlay_l4Base : (s.overlay o).l4Base = s.l4Base := by rfl
@[simp] theorem State.overlay_l4Len : (s.overlay o).l4Len = s.l4Len := by rfl
@[simp] theorem State.overlay_ipSum : (s.overlay o).ipSum = s.ipSum := by rfl
@[simp] theorem State.overlay_icmpSum : (s.overlay o).icmpSum = s.icmpSum := by rfl
@[simp] theorem State.overlay_l4Sum (proto : Nat) : (s.overlay o).l4Sum proto = s.l4Sum proto := by rfl
@[simp] theorem State.overlay_l4Fault (least : Nat) : (s.overlay o).l4Fault least = s.l4Fault least := by rfl
@[simp] theorem State.overlay_psbLen : (s.overlay o).psbLen = s.psbLen := by rfl
@[simp] theorem State.overlay_localMac : (s.overlay o).localMac = s.localMac := by rfl
@[simp] theorem State.overlay_localIp : (s.overlay o).localIp = s.localIp := by rfl
@[simp] theorem State.overlay_brokerIp : (s.overlay o).brokerIp = s.brokerIp := by rfl
@[simp] theorem State.overlay_params : (s.overlay o).params = s.params := by rfl
@[simp] theorem State.overlay_fsm : (s.overlay o).fsm = s.fsm := by rfl

/-! ### What the shared operations do under an overlay -/

@[simp] theorem State.overlay_raise (f : CmdFault) : (s.overlay o).raise f = (s.raise f).overlay o := by rfl
@[simp] theorem State.overlay_complete : (s.overlay o).complete = s.complete.overlay o := by rfl
@[simp] theorem State.overlay_withResult (v : Nat) : (s.overlay o).withResult v = (s.withResult v).overlay o := by rfl
@[simp] theorem State.overlay_withMatch (p : Bool) : (s.overlay o).withMatch p = (s.withMatch p).overlay o := by rfl
@[simp] theorem State.overlay_classify (p : Bool) : (s.overlay o).classify p = (s.classify p).overlay o := by rfl
@[simp] theorem State.overlay_stay : (s.overlay o).stay = s.stay.overlay o := by rfl
@[simp] theorem State.overlay_advance (q : FsmState) : (s.overlay o).advance q = (s.advance q).overlay o := by rfl
@[simp] theorem State.overlay_loadContext : (s.overlay o).loadContext = s.loadContext.overlay o := by rfl
@[simp] theorem State.overlay_pollOverflow : (s.overlay o).pollOverflow = s.pollOverflow.overlay o := by rfl
@[simp] theorem State.overlay_construct (bs : List Byte) : (s.overlay o).construct bs = (s.construct bs).overlay o := by
  rfl
@[simp] theorem State.overlay_pbStore (a : Nat) (bs : List Byte) :
    (s.overlay o).pbStore a bs = (s.pbStore a bs).overlay o := by rfl
@[simp] theorem State.overlay_memWrite (a n v : Nat) : (s.overlay o).memWrite a n v = (s.memWrite a n v).overlay o := by
  rfl

@[simp] theorem State.overlay_recordLength (p : Bool) :
    (s.overlay o).recordLength p = (s.recordLength p).overlay o := by
  cases p <;> rfl

theorem State.overlay_recordLength_classify (p : Bool) :
    ((s.overlay o).recordLength p).classify p = ((s.recordLength p).classify p).overlay o := by
  rw [State.overlay_recordLength, State.overlay_classify]

@[simp] theorem State.overlay_constructWithin (rl : Nat) (bs : List Byte) :
    (s.overlay o).constructWithin rl bs = (s.constructWithin rl bs).overlay o := by
  unfold State.constructWithin
  split <;> simp

@[simp] theorem State.overlay_memWrites (ws : List (Nat × Nat × Nat)) :
    (s.overlay o).memWrites ws = (s.memWrites ws).overlay o := by
  induction ws generalizing s with
  | nil => rfl
  | cons w ws ih => rw [State.memWrites_cons, State.overlay_memWrite, ih, State.memWrites_cons]

/-- A checksum whose sum the overlay does not touch. -/
theorem State.overlay_inject (f : Nat) {sumOf : State → BitVec 32}
    (hsum : ∀ t : State, sumOf (t.overlay o) = sumOf t) :
    (s.overlay o).inject f sumOf = (s.inject f sumOf).overlay o := by
  simp only [State.inject, State.checksumFor, State.overlay_memWrite, hsum]

theorem State.overlay_injectCommand (f : Nat) {sumOf : State → BitVec 32}
    (hsum : ∀ t : State, sumOf (t.overlay o) = sumOf t) :
    (s.overlay o).injectCommand f sumOf = (s.injectCommand f sumOf).overlay o := by
  simp only [State.injectCommand, State.checksumFor, State.overlay_inject s o f hsum, State.overlay_memWrite, hsum,
    State.overlay_withResult, State.overlay_complete]

/-! ### The frames under an overlay -/

@[simp] theorem State.overlay_arpReplyFrame : (s.overlay o).arpReplyFrame = s.arpReplyFrame.overlay o := by
  simp only [State.arpReplyFrame, State.overlay_memRead, State.overlay_localMac, State.overlay_localIp,
    State.overlay_memWrites]

@[simp] theorem State.overlay_arpRequestFrame (ip : BitVec 32) :
    (s.overlay o).arpRequestFrame ip = (s.arpRequestFrame ip).overlay o := by
  simp only [State.arpRequestFrame, State.overlay_localMac, State.overlay_localIp, State.overlay_memWrites]

@[simp] theorem State.overlay_swapped : (s.overlay o).swapEth.swapIp = s.swapEth.swapIp.overlay o := by
  simp only [State.swapEth, State.swapIp, State.overlay_memRead, State.overlay_memWrites]

@[simp] theorem State.overlay_icmpReplyFrame : (s.overlay o).icmpReplyFrame = s.icmpReplyFrame.overlay o := by
  simp only [State.icmpReplyFrame, State.injectIcmp, State.overlay_swapped, State.overlay_l4Base,
    State.overlay_memWrite,
    State.overlay_inject _ o _ (fun t => t.overlay_icmpSum o)]

@[simp] theorem State.overlay_udpReplyPayload (u n : Nat) :
    ((s.overlay o).udpReplyPayload u n) = (s.udpReplyPayload u n).overlay o := by
  simp only [State.udpReplyPayload, State.udpReplyHeader, State.udpReplyPorts, State.injectIp, State.overlay_swapped,
    State.overlay_memRead, State.overlay_memWrites, State.overlay_ihl, State.overlay_memWrite,
    State.overlay_inject _ o _ (fun t => t.overlay_ipSum o), State.overlay_psbBytes, State.overlay_pbStore]

@[simp] theorem State.overlay_injectUdp : (s.overlay o).injectUdp = s.injectUdp.overlay o := by
  rw [State.injectUdp, State.overlay_l4Base,
    State.overlay_inject s o _ (sumOf := fun t => t.l4Sum protoUdp) fun _ => rfl]
  rfl

@[simp] theorem State.overlay_tcpFrame (f : Nat) : (s.overlay o).tcpFrame f = (s.tcpFrame f).overlay o := by
  have hip : (s.overlay o).tcpIpHeader f = (s.tcpIpHeader f).overlay o := State.overlay_memWrites s o _
  have htcp : (s.overlay o).tcpHeader f = (s.tcpHeader f).overlay o := by
    rw [State.tcpHeader, hip]
    exact State.overlay_memWrites _ o _
  have hlength : (s.overlay o).tcpPayloadLength f = s.tcpPayloadLength f := rfl
  simp only [State.tcpFrame, htcp, hlength, State.overlay_psbBytes, State.overlay_pbStore, State.injectIp,
    State.injectTcp, State.overlay_inject _ o _ (fun t => t.overlay_ipSum o),
    State.overlay_inject _ o _ (sumOf := fun t => t.l4Sum protoTcp) (fun _ => rfl), State.overlay_l4Base]

end

/-! ### Two runs of one command -/

/-- A relation of a state to the state under the overlay that a transmit and a transition carry on. -/
structure Overlay.Carries (o : Overlay) (R : State → State → Prop) : Prop where
  overlay : ∀ t : State, R t (t.overlay o)
  transmit : ∀ (t : State) (n : Nat), R (t.transmit n) ((t.overlay o).transmit n)
  advance : ∀ (t u : State) (q : FsmState), R t u → R (t.advance q) (u.advance q)

section

variable {o : Overlay} {R : State → State → Prop} {s : State}

theorem Overlay.Carries.of_eq (h : o.Carries R) {t u : State} (hu : u = t.overlay o) : R t u := hu ▸ h.overlay t

theorem rel_ite {c c' : Prop} [Decidable c] [Decidable c'] {t t' u u' : State} (hc : c ↔ c') (h : R t u)
    (k : R t' u') : R (if c then t else t') (if c' then u else u') := by
  by_cases hholds : c
  · rwa [if_pos hholds, if_pos (hc.mp hholds)]
  · rwa [if_neg hholds, if_neg (mt hc.mpr hholds)]

theorem Overlay.Carries.l4Checked (h : o.Carries R) {t u : State} (least : Nat) (k : R t u) :
    R (match s.l4Fault least with | some f => s.raise f | none => t)
      (match (s.overlay o).l4Fault least with | some f => (s.overlay o).raise f | none => u) := by
  rw [State.overlay_l4Fault]
  cases s.l4Fault least with
  | none => exact k
  | some f => exact h.overlay _

/-- A frame that is built alike under the overlay, and sent. -/
theorem Overlay.Carries.sent (h : o.Carries R) {t u : State} (hu : u = t.overlay o) (n : Nat) :
    R (t.transmit n) (u.transmit n) := hu ▸ h.transmit t n

theorem Overlay.Carries.sendTcpSegment (h : o.Carries R) (s : State) (f : Nat) :
    R (s.sendTcpSegment f) ((s.overlay o).sendTcpSegment f) :=
  h.sent (s.overlay_tcpFrame o f) _

theorem Overlay.Carries.sendArpRequest (h : o.Carries R) (s : State) (ip : BitVec 32) :
    R (s.sendArpRequest ip) ((s.overlay o).sendArpRequest ip) :=
  h.sent (s.overlay_arpRequestFrame o ip) _

theorem State.overlay_readReg (hsum : o.sum = id) (hmask : o.subnetMask = id) (hgateway : o.gatewayIp = id)
    (hdhcp : o.dhcpEn = id) (hrx : o.rxLen = id) (r : Reg) : (s.overlay o).readReg r = s.readReg r := by
  cases r <;> simp [State.readReg, State.overlay, hsum, hmask, hgateway, hdhcp, hrx]

theorem State.overlay_writeReg (hsum : o.sum = id) (hmask : o.subnetMask = id) (hgateway : o.gatewayIp = id)
    (hdhcp : o.dhcpEn = id) (r : Reg) (val : BitVec 48) :
    (s.overlay o).writeReg r val = (s.writeReg r val).overlay o := by
  cases r <;> simp [State.writeReg, State.overlay, hsum, hmask, hgateway, hdhcp]

theorem State.overlay_readReg_of_address (hmask : o.subnetMask = id) (hgateway : o.gatewayIp = id) {r : Reg}
    (hr : r.isAddress = true) : (s.overlay o).readReg r = s.readReg r := by
  cases r with
  | subnetMask => exact congrArg BitVec.toNat (congrFun hmask s.subnetMask)
  | gatewayIp => exact congrArg BitVec.toNat (congrFun hgateway s.gatewayIp)
  | localIp | brokerIp | ctxSrcIp | ctxDstIp => rfl
  | _ => cases hr

theorem Overlay.Carries.classified (h : o.Carries R) (s : State) {p p' : Bool} (hp : p' = p) :
    R (s.classify p) ((s.overlay o).classify p') := by
  rw [hp, State.overlay_classify]
  exact h.overlay _

/-- `BuildIcmpEchoReply` under the overlay (42_builders.md R184). -/
theorem Overlay.Carries.buildIcmpEchoReply (h : o.Carries R) {t u : State} (hexec : execBuildIcmpEchoReply s = .next t)
    (hover : execBuildIcmpEchoReply (s.overlay o) = .next u) : R t u := by
  obtain rfl := Host.Outcome.next.inj hexec
  obtain rfl := Host.Outcome.next.inj hover
  refine h.l4Checked 4 ?_
  rw [State.overlay_icmpReplyFrame, State.overlay_ipTotLen]
  exact rel_ite Iff.rfl (h.of_eq (s.overlay_raise o _)) (h.transmit _ _)

/-- `BuildUdpReply` under the overlay (42_builders.md R185). -/
theorem Overlay.Carries.buildUdpReply (h : o.Carries R) {t u : State} (hexec : execBuildUdpReply s = .next t)
    (hover : execBuildUdpReply (s.overlay o) = .next u) : R t u := by
  obtain rfl := Host.Outcome.next.inj hexec
  obtain rfl := Host.Outcome.next.inj hover
  rw [State.overlay_l4Base, State.overlay_psbLen, State.overlay_udpReplyPayload, State.overlay_l4Base,
    State.overlay_l4Len, State.overlay_injectUdp]
  exact rel_ite Iff.rfl (h.of_eq (s.overlay_raise o _))
    (rel_ite Iff.rfl (h.of_eq (s.overlay_raise o _)) (h.transmit _ _))

/-- A checksum command of a layer-4 header under the overlay (40_checksum.md R136 to R138). -/
theorem Overlay.Carries.injectChecked (h : o.Carries R) (s : State) (least k : Nat) {sumOf : State → BitVec 32}
    (hsum : ∀ t : State, sumOf (t.overlay o) = sumOf t) :
    R (match s.l4Fault least with | some f => s.raise f | none => s.injectCommand (s.l4Base + k) sumOf)
      (match (s.overlay o).l4Fault least with
        | some f => (s.overlay o).raise f
        | none => (s.overlay o).injectCommand ((s.overlay o).l4Base + k) sumOf) :=
  h.l4Checked least (h.of_eq (s.overlay_injectCommand o _ hsum))

theorem State.overlay_sum {s : State} (hsum : o.sum = id) : (s.overlay o).sum = s.sum := congrFun hsum s.sum

/-- `ACC` with `SUM` as it is (40_checksum.md R132). -/
theorem State.overlay_accumulate (hsum : o.sum = id) (s : State) (a n : Nat) :
    ({ s.overlay o with sum := (s.overlay o).acc a n (s.overlay o).sum } : State).complete
      = ({ s with sum := s.acc a n s.sum } : State).complete.overlay o := by
  simp only [State.overlay, State.complete, hsum, id]
  rfl

/-- `RX.LOAD` with `RX_LEN` as it is (45_system.md R254). -/
theorem State.overlay_deliver (hrx : o.rxLen = id) (s : State) (data : List Byte) :
    ({ (s.overlay o).pbStore 0 data with rxLen := BitVec.ofNat 16 data.length } : State).complete
      = ({ s.pbStore 0 data with rxLen := BitVec.ofNat 16 data.length } : State).complete.overlay o := by
  simp only [State.overlay, State.complete, State.pbStore, hrx, id]

/-- Each row of the state machine under the overlay (44_fsm.md R232). -/
theorem Overlay.Carries.fsmStep (h : o.Carries R) {t u : State} (hexec : execFsmStep s = .next t)
    (hover : execFsmStep (s.overlay o) = .next u) :
    R t u := by
  obtain rfl := Host.Outcome.next.inj hexec
  obtain rfl := Host.Outcome.next.inj hover
  rw [State.overlay_fsm]
  cases s.fsm with
  | idle | tcpConnectionActive => exact h.overlay s.stay
  | sendArpRequest => exact h.advance _ _ _ (h.sendArpRequest s s.brokerIp)
  | sendTcpSyn | sendTcpAck => exact h.advance _ _ _ (h.sendTcpSegment s.loadContext.complete _)
  | waitArpResponse | waitTcpSynAck => exact rel_ite Iff.rfl (h.overlay _) (h.overlay s.stay)

/-- A command from which the overlay is hidden does the same under it. -/
theorem Overlay.Carries.exec (h : o.Carries R) {i : Instr} {t u : State} (hhidden : o.HiddenFrom i)
    (hexec : exec i s = .next t) (hover : exec i (s.overlay o) = .next u) : R t u := by
  by_cases hstep : i = .fsmStep
  · subst hstep
    exact h.fsmStep hexec hover
  cases i with
  | fsmStep => exact absurd rfl hstep
  | rd reg =>
    obtain rfl := Host.Outcome.next.inj hexec
    obtain rfl := Host.Outcome.next.inj hover
    obtain ⟨hsum, hmask, hgateway, hdhcp, hrx⟩ := hhidden
    refine h.of_eq ?_
    cases readableReg reg with
    | none => rfl
    | some r => simp only [State.overlay_readReg hsum hmask hgateway hdhcp hrx]; rfl
  | wr reg val =>
    obtain rfl := Host.Outcome.next.inj hexec
    obtain rfl := Host.Outcome.next.inj hover
    obtain ⟨hsum, hmask, hgateway, hdhcp, hrx⟩ := hhidden
    refine h.of_eq ?_
    cases writableReg reg with
    | none => rfl
    | some r => simp only [State.overlay_writeReg hsum hmask hgateway hdhcp]; rfl
  | ipvalid reg =>
    obtain rfl := Host.Outcome.next.inj hexec
    obtain rfl := Host.Outcome.next.inj hover
    obtain ⟨hmask, hgateway⟩ := hhidden
    refine h.of_eq ?_
    cases hreg : addressReg reg with
    | none => rfl
    | some r =>
      have haddress := (Option.filter_eq_some_iff.mp hreg).2
      simp only [State.overlay_readReg_of_address hmask hgateway haddress]
      rfl
  | acc off cnt =>
    obtain rfl := Host.Outcome.next.inj hexec
    obtain rfl := Host.Outcome.next.inj hover
    exact rel_ite Iff.rfl (h.overlay _) (h.of_eq (State.overlay_accumulate hhidden s _ _))
  | fold =>
    obtain rfl := Host.Outcome.next.inj hexec
    obtain rfl := Host.Outcome.next.inj hover
    refine h.of_eq ?_
    rw [State.overlay_sum hhidden]
    rfl
  | rxLoad data =>
    obtain rfl := Host.Outcome.next.inj hexec
    obtain rfl := Host.Outcome.next.inj hover
    exact rel_ite Iff.rfl (h.overlay _) (h.of_eq (State.overlay_deliver hhidden s data))
  | psbLoad data | pbRd off | psbRd off | pbWr off byte =>
    obtain rfl := Host.Outcome.next.inj hexec
    obtain rfl := Host.Outcome.next.inj hover
    exact rel_ite Iff.rfl (h.overlay _) (h.overlay _)
  | ctxLoad | rxOvf =>
    obtain rfl := Host.Outcome.next.inj hexec
    obtain rfl := Host.Outcome.next.inj hover
    exact h.overlay _
  | isIp | isIpUnicast | isArpRequest | isArpReply | isPingRequest | isUdp | isTcp | isTcpAck
  | isTcpFinAck | isTcpResetAck | isMqttConnectAck =>
    obtain rfl := Host.Outcome.next.inj hexec
    obtain rfl := Host.Outcome.next.inj hover
    exact h.classified s rfl
  | mqConnect | mqDisconnect =>
    obtain rfl := Host.Outcome.next.inj hexec
    obtain rfl := Host.Outcome.next.inj hover
    exact h.of_eq (s.overlay_construct o _)
  | isMqttSubAck =>
    obtain rfl := Host.Outcome.next.inj hexec
    obtain rfl := Host.Outcome.next.inj hover
    exact h.of_eq (s.overlay_recordLength_classify o s.isMqttSubAck)
  | isMqttUnSubAck =>
    obtain rfl := Host.Outcome.next.inj hexec
    obtain rfl := Host.Outcome.next.inj hover
    exact h.of_eq (s.overlay_recordLength_classify o s.isMqttUnSubAck)
  | isMqttPublish =>
    obtain rfl := Host.Outcome.next.inj hexec
    obtain rfl := Host.Outcome.next.inj hover
    exact h.of_eq (s.overlay_recordLength_classify o s.isMqttPublish)
  | mqSubscribe topic | mqUnsubscribe topic | mqPublish topic data =>
    obtain rfl := Host.Outcome.next.inj hexec
    obtain rfl := Host.Outcome.next.inj hover
    exact h.of_eq (s.overlay_constructWithin o _ _)
  | ckIp =>
    obtain rfl := Host.Outcome.next.inj hexec
    obtain rfl := Host.Outcome.next.inj hover
    exact h.of_eq (s.overlay_injectCommand o 24 (State.overlay_ipSum · o))
  | ckIcmp | ckUdp | ckTcp =>
    obtain rfl := Host.Outcome.next.inj hexec
    obtain rfl := Host.Outcome.next.inj hover
    exact h.injectChecked s _ _ fun _ => rfl
  | buildArpReply =>
    obtain rfl := Host.Outcome.next.inj hexec
    obtain rfl := Host.Outcome.next.inj hover
    exact h.sent (s.overlay_arpReplyFrame o) _
  | buildArpRequest ip =>
    obtain rfl := Host.Outcome.next.inj hexec
    obtain rfl := Host.Outcome.next.inj hover
    exact h.sendArpRequest s ip
  | buildIcmpEchoReply => exact h.buildIcmpEchoReply hexec hover
  | buildUdpReply => exact h.buildUdpReply hexec hover
  | buildTcpSegment flags =>
    obtain rfl := Host.Outcome.next.inj hexec
    obtain rfl := Host.Outcome.next.inj hover
    exact rel_ite Iff.rfl (h.sendTcpSegment s _) (h.overlay _)
  | fsmConnect =>
    obtain rfl := Host.Outcome.next.inj hexec
    obtain rfl := Host.Outcome.next.inj hover
    exact rel_ite Iff.rfl (h.overlay _) (h.overlay _)

end

/-! ### The fields no command but a few reads -/

/-- An overlay that leaves the driver's answers is carried through every command from which it is hidden. -/
theorem exec_overlay {o : Overlay} {i : Instr} {s t : State} (htx : o.txAnswers = id) (hhidden : o.HiddenFrom i)
    (hexec : exec i s = .next t) : exec i (s.overlay o) = .next (t.overlay o) := by
  have hcarries : o.Carries (fun t u => u = t.overlay o) :=
    { overlay := fun _ => rfl
      transmit := fun t n => by simp only [State.overlay, State.transmit, State.nextTxAnswer, htx, id]; rfl
      advance := by rintro t _ q rfl; exact t.overlay_advance o q }
  obtain ⟨u, hover⟩ := exists_exec_eq_next i (s.overlay o)
  rw [hover, hcarries.exec hhidden hexec hover]

/-- `SUM` replaced. -/
def Overlay.ofSum (x : BitVec 32) : Overlay := ⟨fun _ => x, id, id, id, id, id⟩

/-- The stored-only registers replaced. -/
def Overlay.ofStored (m g : BitVec 32) (d : BitVec 1) (l : BitVec 16) : Overlay :=
  ⟨id, fun _ => m, fun _ => g, fun _ => d, fun _ => l, id⟩

/-- The driver's coming answers replaced. -/
def Overlay.ofTxAnswers (answers : List Bool) : Overlay := ⟨id, id, id, id, id, fun _ => answers⟩

theorem Overlay.ofSum_hiddenFrom (x : BitVec 32) {i : Instr} (hacc : ∀ off cnt, i ≠ .acc off cnt)
    (hfold : i ≠ .fold) (hrd : ∀ reg, i ≠ .rd reg) (hwr : ∀ reg val, i ≠ .wr reg val) :
    (Overlay.ofSum x).HiddenFrom i := by
  cases i with
  | acc off cnt => exact absurd rfl (hacc off cnt)
  | fold => exact absurd rfl hfold
  | rd reg => exact absurd rfl (hrd reg)
  | wr reg val => exact absurd rfl (hwr reg val)
  | ipvalid reg => exact ⟨rfl, rfl⟩
  | rxLoad data => exact rfl
  | _ => trivial

theorem Overlay.ofStored_hiddenFrom (m g : BitVec 32) (d : BitVec 1) (l : BitVec 16) {i : Instr}
    (hrd : ∀ reg, i ≠ .rd reg) (hwr : ∀ reg val, i ≠ .wr reg val) (hipvalid : ∀ reg, i ≠ .ipvalid reg)
    (hrx : ∀ data, i ≠ .rxLoad data) : (Overlay.ofStored m g d l).HiddenFrom i := by
  cases i with
  | rd reg => exact absurd rfl (hrd reg)
  | wr reg val => exact absurd rfl (hwr reg val)
  | ipvalid reg => exact absurd rfl (hipvalid reg)
  | rxLoad data => exact absurd rfl (hrx data)
  | acc off cnt | fold => exact rfl
  | _ => trivial

theorem Overlay.ofTxAnswers_hiddenFrom (answers : List Bool) (i : Instr) :
    (Overlay.ofTxAnswers answers).HiddenFrom i := by
  cases i with
  | rd reg | wr reg val => exact ⟨rfl, rfl, rfl, rfl, rfl⟩
  | ipvalid reg => exact ⟨rfl, rfl⟩
  | rxLoad data | acc off cnt | fold => exact rfl
  | _ => trivial

/-- Settles O12: the command does the same under any `SUM`, its own included, so it also keeps it. -/
theorem sumIsPrivateToTheEngineCommands : Obligations.SumIsPrivateToTheEngineCommands := by
  intro i s t x hacc hfold hrd hwr hexec
  have hover : ∀ x, exec i (s.overlay (.ofSum x)) = .next (t.overlay (.ofSum x)) := fun x =>
    exec_overlay rfl (Overlay.ofSum_hiddenFrom x hacc hfold hrd hwr) hexec
  have hsame : exec i s = .next (t.overlay (.ofSum s.sum)) := hover s.sum
  have hkept : t = t.overlay (.ofSum s.sum) := Host.Outcome.next.inj (hexec.symm.trans hsame)
  exact ⟨by rw [hkept]; rfl, hover x⟩

/-- Settles O13: the command does the same under any values of the four registers. -/
theorem storedOnlyRegistersSteerNothing : Obligations.StoredOnlyRegistersSteerNothing := by
  intro i s t m g d l hrd hwr hipvalid hrx hexec
  exact exec_overlay rfl (Overlay.ofStored_hiddenFrom m g d l hrd hwr hipvalid hrx) hexec

/-! ### The driver's answer (42_builders.md R180, 60_exceptions.md R290) -/

/-- Two outcomes of one command that differ in the driver's answer only. -/
def SameButAnswer (t u : State) : Prop :=
  RegsKept [.flags, .err] t u ∧ PbKept t u ∧ PsbKept t u ∧ u.flags = { t.flags with txok := u.flags.txok }
    ∧ u.txLog.map TxRecord.frame = t.txLog.map TxRecord.frame

theorem State.ofTxAnswers_readReg (s : State) (answers : List Bool) (r : Reg) :
    (s.overlay (.ofTxAnswers answers)).readReg r = s.readReg r := State.overlay_readReg rfl rfl rfl rfl rfl r

theorem sameButAnswer_overlay (answers : List Bool) (t : State) :
    SameButAnswer t (t.overlay (.ofTxAnswers answers)) :=
  ⟨fun r _ => t.ofTxAnswers_readReg answers r, fun _ => rfl, fun _ => rfl, rfl, rfl⟩

/-- Both runs hand the same frame over. -/
theorem sameButAnswer_transmit (answers : List Bool) (t : State) (n : Nat) :
    SameButAnswer (t.transmit n) ((t.overlay (.ofTxAnswers answers)).transmit n) := by
  refine ⟨fun r hr => ?_, fun _ => rfl, fun _ => rfl, rfl, ?_⟩
  · have hflags : r ≠ .flags := fun e => hr (by simp [e])
    have herr : r ≠ .err := fun e => hr (by simp [e])
    rw [State.readReg_transmit _ _ _ hflags herr, State.readReg_transmit _ _ _ hflags herr, State.ofTxAnswers_readReg]
  · simp only [State.transmit_txLog, List.map_append, List.map_cons, List.map_nil]
    rfl

/-- A transition writes `FSM_STATE` and `MATCH` alike in both runs. -/
theorem SameButAnswer.advance {t u : State} (h : SameButAnswer t u) (q : FsmState) :
    SameButAnswer (t.advance q) (u.advance q) := by
  obtain ⟨hregs, hpb, hpsb, hflags, hlog⟩ := h
  refine ⟨fun r hr => ?_, hpb, hpsb, ?_, hlog⟩
  · cases r with
    | flags | err => simp at hr
    | fsmState => rfl
    | _ => exact hregs _ hr
  · rw [State.advance_flags, State.advance_flags, hflags]

/-- Settles O14: the answers are read where a frame is sent, and what a transmit does with them is `TXOK`, `ERR` and
the log. -/
theorem driverAnswerReachesOnlyTheStatus : Obligations.DriverAnswerReachesOnlyTheStatus := by
  intro i s t u answers hexec hover
  have hcarries : (Overlay.ofTxAnswers answers).Carries SameButAnswer :=
    { overlay := sameButAnswer_overlay answers
      transmit := sameButAnswer_transmit answers
      advance := fun _ _ q h => h.advance q }
  exact hcarries.exec (Overlay.ofTxAnswers_hiddenFrom answers i) hexec hover

end Sys2Proof.Machine

/-! PROOFS. Fields of `PB` (20_memory.md R61 to R64), injected checksums (40_checksum.md R134 to R139), the
classifiers as a family (41_classifier.md R150, R167), and the numbers of the status registers (10_state.md R34
to R36). -/

namespace Sys2Proof.Machine

/-! ### Fields of `PB` -/

/-- Settles O21: a write lays its bytes out from the most significant, and a read takes them in that order. -/
theorem bufferFieldsAreBigEndian : Obligations.BufferFieldsAreBigEndian := by
  intro s a n v _ _
  have hpow : ∀ m, 256 ^ m = 2 ^ (8 * m) := fun m => by rw [pow_mul]; rfl
  refine ⟨?_, fun i hi => ?_, fun k hk => ?_, s.memRead_two a⟩
  · rw [State.memRead_memWrite_same, hpow]
  · rw [State.pbAt_memWrite, if_pos (by omega), BitVec.toNat_ofNat, Nat.add_sub_cancel_left, hpow]
  · rw [State.pbAt_memWrite, if_neg (by omega)]

/-! ### An injected checksum -/

/-- Settles O33: the fold stands in the region in place of the zeros, so the sum gains its own fold. -/
theorem injectedChecksumFoldsToZero : Obligations.InjectedChecksumFoldsToZero := by
  intro s a n f x _ haf heven hfn hwrap
  change x.toNat + exactWordSum (s.inject f (fun t => t.acc a n x)).pbAt a n < 2 ^ 32 at hwrap
  change fold ((s.inject f (fun t => t.acc a n x)).acc a n x) = 0
  have hsum := s.exactWordSum_inject a n f (fun t => t.acc a n x) haf heven hfn
  have hfold : s.checksumFor f (fun t => t.acc a n x) = fold ((s.memWrite f 2 0).acc a n x) := rfl
  rw [hfold] at hsum
  apply fold_add_fold ((s.memWrite f 2 0).acc a n x)
  rw [State.acc_toNat, State.acc_toNat, Nat.mod_eq_of_lt hwrap, Nat.mod_eq_of_lt (by omega), hsum, Nat.add_assoc]

/-! ### The length checks (40_checksum.md R136 to R138, 42_builders.md R184) -/

section

variable {s : State} {least : Nat}

theorem State.l4Fault_of_short_total (h : s.ipTotLen < s.ihl) : s.l4Fault least = some .badLength := if_pos h

theorem State.l4Fault_of_beyond (h : s.ihl ≤ s.ipTotLen) (hbeyond : 1522 < 14 + s.ipTotLen) :
    s.l4Fault least = some .bounds := by
  exact (if_neg (Nat.not_lt.mpr h)).trans (if_pos hbeyond)

theorem State.l4Fault_of_short_payload (h : s.ihl ≤ s.ipTotLen) (hinside : 14 + s.ipTotLen ≤ 1522)
    (hshort : s.ipTotLen < s.ihl + least) : s.l4Fault least = some .badLength := by
  have hlen : s.l4Len < least := by unfold State.l4Len; omega
  exact (if_neg (Nat.not_lt.mpr h)).trans ((if_neg (Nat.not_lt.mpr hinside)).trans (if_pos hlen))

/-- The four commands behind the checks take the fault that the checks find. -/
theorem exec_of_l4Fault {i : Instr} {f : CmdFault}
    (hi : (i, least) ∈ [(Instr.ckIcmp, 4), (.ckUdp, 8), (.ckTcp, 20), (.buildIcmpEchoReply, 4)])
    (hfault : s.l4Fault least = some f) : exec i s = .next (s.raise f) := by
  simp only [List.mem_cons, Prod.mk.injEq, List.not_mem_nil, or_false] at hi
  obtain ⟨rfl, rfl⟩ | ⟨rfl, rfl⟩ | ⟨rfl, rfl⟩ | ⟨rfl, rfl⟩ := hi
  · rw [exec, execCkIcmp, hfault]
  · rw [exec, execCkUdp, hfault]
  · rw [exec, execCkTcp, hfault]
  · rw [exec, execBuildIcmpEchoReply, hfault]

end

/-- Settles O36: the checks in their order, each behind those that passed. -/
theorem inconsistentLengthsFault : Obligations.InconsistentLengthsFault := by
  intro s i least hi
  exact ⟨fun h => faulted_of_raise (exec_of_l4Fault hi (State.l4Fault_of_short_total h)),
    fun h hbeyond => faulted_of_raise (exec_of_l4Fault hi (State.l4Fault_of_beyond h hbeyond)),
    fun h hinside hshort => faulted_of_raise (exec_of_l4Fault hi (State.l4Fault_of_short_payload h hinside hshort))⟩

/-! ### `CK.ICMP`, `CK.UDP` and `CK.TCP` with consistent lengths -/

section

variable {s : State}

theorem exec_ckIcmp (h : s.l4Fault 4 = none) :
    exec .ckIcmp s = .next (s.injectCommand (s.l4Base + 2) State.icmpSum) := by
  rw [exec, execCkIcmp, h]

theorem exec_ckUdp (h : s.l4Fault 8 = none) :
    exec .ckUdp s = .next (s.injectCommand (s.l4Base + 6) (fun t => t.l4Sum 17)) := by
  rw [exec, execCkUdp, h]
  rfl

theorem exec_ckTcp (h : s.l4Fault 20 = none) :
    exec .ckTcp s = .next (s.injectCommand (s.l4Base + 16) (fun t => t.l4Sum 6)) := by
  rw [exec, execCkTcp, h]
  rfl

/-- The ICMP sum depends on the bytes of `PB` alone. -/
theorem State.icmpSum_congr {t : State} (h : ∀ k, t.pbAt k = s.pbAt k) : t.icmpSum = s.icmpSum := by
  rw [State.icmpSum, State.icmpSum, State.l4Base_congr _ _ (h 14), State.l4Len_congr _ _ (h 14) (h 16) (h 17),
    State.acc_congr _ _ _ _ _ fun k _ _ => h k]

theorem State.fold_icmpSum_injectCommand (hbase : 18 ≤ s.l4Base) (hlen : 4 ≤ s.l4Len) (hfits : s.l4Len < 65536) :
    fold (s.injectCommand (s.l4Base + 2) State.icmpSum).icmpSum = 0 := by
  rw [State.icmpSum_congr fun k => s.pbAt_injectCommand (s.l4Base + 2) k State.icmpSum]
  exact s.fold_icmpSum_inject hlen hfits hbase

/-- Behind a header of 20 bytes the checksum field cannot lie on the addresses of the pseudo-header. -/
theorem State.fold_l4Sum_injectCommand {proto k : Nat} (hproto : proto < 65536) (heven : k % 2 = 0)
    (hbase : 34 ≤ s.l4Base) (hlen : k + 2 ≤ s.l4Len) (hfits : s.l4Len < 65536) :
    fold ((s.injectCommand (s.l4Base + k) (fun t => t.l4Sum proto)).l4Sum proto) = 0 := by
  rw [State.l4Sum_congr _ _ _ fun j => s.pbAt_injectCommand (s.l4Base + k) j _]
  exact s.fold_l4Sum_inject proto k hproto heven (by omega) (by omega) hlen hfits

end

/-- Settles O35: each is one injection at its field; the sums differ in the pseudo-header. -/
theorem layerFourChecksumsAreInjected : Obligations.LayerFourChecksumsAreInjected := by
  intro s i field least sumOf hcommand htotal hinside hleast
  have hfits : s.l4Len < 65536 := by unfold State.l4Len; omega
  have hbase : s.l4Base = 14 + s.ihl := rfl
  have hnone := (s.l4Fault_eq_none least).mpr ⟨htotal, hinside, hleast⟩
  have hexec : exec i s = .next (s.injectCommand (s.l4Base + field) sumOf) := by
    obtain ⟨rfl, rfl, rfl, rfl⟩ | ⟨rfl, rfl, rfl, rfl⟩ | ⟨rfl, rfl, rfl, rfl⟩ := hcommand
    · exact exec_ckIcmp hnone
    · exact exec_ckUdp hnone
    · exact exec_ckTcp hnone
  have hfold : 20 ≤ s.ihl → fold (sumOf (s.injectCommand (s.l4Base + field) sumOf)) = 0 := by
    intro hheader
    obtain ⟨-, rfl, rfl, rfl⟩ | ⟨-, rfl, rfl, rfl⟩ | ⟨-, rfl, rfl, rfl⟩ := hcommand
    · exact State.fold_icmpSum_injectCommand (by omega) hleast hfits
    · exact State.fold_l4Sum_injectCommand (by decide) rfl (by omega) hleast hfits
    · exact State.fold_l4Sum_injectCommand (by decide) rfl (by omega) (by omega) hfits
  exact ⟨_, hexec, s.injectCommand_result_toNat _ _, State.injectCommand_err .., s.injectCommand_result_setWidth _ _,
    hfold, s.injectCommand_spec _ _⟩

/-! ### A datagram that `CK.UDP` has checksummed -/

/-- The header check reads the frame type and the measured header. -/
theorem ipHeaderValid_congr {s t : State} (h : ∀ k, 12 ≤ k → k < 15 ∨ k < 14 + s.ihl → t.pbAt k = s.pbAt k) :
    ipHeaderValid t ↔ ipHeaderValid s := by
  have hihl := State.ihl_congr s t (h 14 (by omega) (by omega))
  have hsum := State.ipSum_congr s t fun k hk hk' => h k (by omega) (by omega)
  have htype : t.ethType = s.ethType := State.memRead_congr s t 12 2 fun k hk hk' => h k hk (by omega)
  rw [← State.ipOk_iff, ← State.ipOk_iff, State.ipOk, State.ipOk, htype, hsum]

/-- Settles O37: the field lies behind the header, so header, protocol and lengths are as before, and the datagram
folds to zero. -/
theorem injectedUdpDatagramIsUdp : Obligations.InjectedUdpDatagramIsUdp := by
  intro s t u hvalid hheader hproto hlen hinside hck hudp
  have hbase : s.l4Base = 14 + s.ihl := rfl
  have hl4 : s.l4Len = s.ipTotLen - s.ihl := rfl
  rw [exec_ckUdp ((s.l4Fault_eq_none 8).mpr ⟨by omega, hinside, by omega⟩)] at hck
  obtain ⟨hpb, -, -, -⟩ := s.injectCommand_spec (s.l4Base + 6) (fun t => t.l4Sum 17)
  have hfold := State.fold_l4Sum_injectCommand (s := s) (proto := 17) (k := 6) (by decide) rfl (by omega) (by omega)
    (by omega)
  rw [Host.Outcome.next.inj hck] at hpb hfold
  have hihl := State.ihl_congr s t (hpb 14 (by omega))
  have htotal := State.ipTotLen_congr s t (hpb 16 (by omega)) (hpb 17 (by omega))
  have hvalid' : ipHeaderValid t := (ipHeaderValid_congr fun k _ hk => hpb k (by omega)).mpr hvalid
  have hproto' : t.ipProto = protoUdp := (State.memRead_one_eq_iff t 23 17#8).mpr ((hpb 23 (by omega)).trans hproto)
  have hlenOk : t.lenOk 8 = true := by
    rw [State.lenOk_iff, State.l4Len, hihl, htotal]
    omega
  have hmatch : t.isUdp = true := by
    rw [State.isUdp, t.ipOk_iff.mpr hvalid', hlenOk, decide_eq_true hproto', protoUdp, decide_eq_true hfold]
    rfl
  obtain rfl := Host.Outcome.next.inj hudp
  rw [State.classify_flags]
  exact hmatch

/-! ### The classifiers as a family -/

theorem State.classify_classify (s : State) (b : Bool) : (s.classify b).classify b = s.classify b := rfl

section

variable (s : State) (b : Bool)

theorem State.recordLength_true :
    s.recordLength true
      = { s.withResult (s.pbAt (s.mqBase + 1)).toNat with mqLen := s.pbAt (s.mqBase + 1) } := rfl

theorem State.mqBase_recordLength_classify : ((s.recordLength b).classify b).mqBase = s.mqBase := by
  cases b <;> rfl

theorem State.pbAt_recordLength_classify (k : Nat) : ((s.recordLength b).classify b).pbAt k = s.pbAt k := by
  cases b <;> rfl

/-- The MQTT predicates read `LOCAL_MAC` and `PB`. -/
theorem State.mqttType_recordLength_classify (first : Nat) :
    ((s.recordLength b).classify b).mqttType first = s.mqttType first := by
  cases b <;> rfl

/-- The length is recorded from `PB`, where it still stands (R166). -/
theorem State.recordLength_again :
    (((s.recordLength b).classify b).recordLength b).classify b = (s.recordLength b).classify b := by
  cases b with
  | false => rfl
  | true =>
    rw [State.recordLength_true ((s.recordLength true).classify true), State.mqBase_recordLength_classify,
      State.pbAt_recordLength_classify, State.recordLength_true]
    generalize s.pbAt (s.mqBase + 1) = length
    rfl

end

/-- A classifier whose predicate does not read what `classify` writes (R150). -/
theorem exec_classify_again {i : Instr} {p : State → Bool} (hexec : ∀ s, exec i s = .next (s.classify (p s)))
    (hp : ∀ (s : State) (b : Bool), p (s.classify b) = p s) {s t : State} (h : exec i s = .next t) :
    exec i t = .next t := by
  obtain rfl := Host.Outcome.next.inj ((hexec s).symm.trans h)
  rw [hexec, hp, State.classify_classify]

/-- A classifier that records the length (R166). -/
theorem exec_recordLength_again {i : Instr} {first : Nat}
    (hexec : ∀ s, exec i s = .next ((s.recordLength (s.mqttType first)).classify (s.mqttType first))) {s t : State}
    (h : exec i s = .next t) : exec i t = .next t := by
  obtain rfl := Host.Outcome.next.inj ((hexec s).symm.trans h)
  rw [hexec, State.mqttType_recordLength_classify, State.recordLength_again]

/-- Settles O43: every predicate reads `PB` and the configuration, which no classifier writes. -/
theorem classifiersAreRepeatable : Obligations.ClassifiersAreRepeatable := by
  intro i s t hi h
  simp only [List.mem_cons, List.not_mem_nil, or_false] at hi
  obtain rfl | rfl | rfl | rfl | rfl | rfl | rfl | rfl | rfl | rfl | rfl | rfl | rfl | rfl := hi
  · exact exec_classify_again (p := State.isIp) (fun _ => rfl) (fun _ _ => rfl) h
  · exact exec_classify_again (p := State.isIpUnicast) (fun _ => rfl) (fun _ _ => rfl) h
  · exact exec_classify_again (p := State.isArpRequest) (fun _ => rfl) (fun _ _ => rfl) h
  · exact exec_classify_again (p := State.isArpReply) (fun _ => rfl) (fun _ _ => rfl) h
  · exact exec_classify_again (p := State.isPingRequest) (fun _ => rfl) (fun _ _ => rfl) h
  · exact exec_classify_again (p := State.isUdp) (fun _ => rfl) (fun _ _ => rfl) h
  · exact exec_classify_again (p := State.isTcp) (fun _ => rfl) (fun _ _ => rfl) h
  · exact exec_classify_again (p := State.isTcpAck) (fun _ => rfl) (fun _ _ => rfl) h
  · exact exec_classify_again (p := State.isTcpFinAck) (fun _ => rfl) (fun _ _ => rfl) h
  · exact exec_classify_again (p := State.isTcpResetAck) (fun _ => rfl) (fun _ _ => rfl) h
  · exact exec_classify_again (p := State.isMqttConnectAck) (fun _ => rfl) (fun _ _ => rfl) h
  · exact exec_recordLength_again (first := 0x90) (fun _ => rfl) h
  · exact exec_recordLength_again (first := 0xB0) (fun _ => rfl) h
  · exact exec_recordLength_again (first := 0x30) (fun _ => rfl) h

/-! ### Which predicates exclude each other (R167) -/

/-- A match of the command on the state tells `P`. -/
def MatchTells (i : Instr) (s : State) (P : Prop) : Prop :=
  ∀ t, exec i s = .next t → t.flags.matched = true → P

section

variable {i j : Instr} {s : State} {P : Prop}

/-- `MATCH` holds what `classify` was given, whether or not a length was recorded before it (R150, R166). -/
theorem matchTells_of_classify {u : State} {p : Bool} (hexec : exec i s = .next (u.classify p)) (hp : p = true → P) :
    MatchTells i s P := by
  intro t ht hmatch
  obtain rfl := Host.Outcome.next.inj (hexec.symm.trans ht)
  rw [State.classify_flags] at hmatch
  exact hp hmatch

/-- Two values of one field cannot both be there. -/
theorem MatchTells.exclude {α : Type} {field v w : α} (hi : MatchTells i s (field = v))
    (hj : MatchTells j s (field = w)) (hvw : v ≠ w) {t u : State} (ht : exec i s = .next t)
    (hu : exec j s = .next u) : ¬ (t.flags.matched = true ∧ u.flags.matched = true) :=
  fun ⟨hmi, hmj⟩ => hvw ((hi t ht hmi).symm.trans (hj u hu hmj))

end

section

variable (s : State)

theorem matchTells_typeArp {i : Instr} (hi : i ∈ [Instr.isArpRequest, .isArpReply]) :
    MatchTells i s (shortAt s 12 = 0x0806#16) := by
  simp only [List.mem_cons, List.not_mem_nil, or_false] at hi
  obtain rfl | rfl := hi
  · exact matchTells_of_classify rfl fun h => ((s.arpFor_iff 1#16).mp h).1
  · exact matchTells_of_classify rfl fun h => ((s.arpFor_iff 2#16).mp h).1

theorem matchTells_typeIpv4 {i : Instr} (hi : i ∈ [Instr.isIp, .isIpUnicast, .isPingRequest, .isUdp]) :
    MatchTells i s (shortAt s 12 = 0x0800#16) := by
  simp only [List.mem_cons, List.not_mem_nil, or_false] at hi
  obtain rfl | rfl | rfl | rfl := hi
  · exact matchTells_of_classify rfl fun h => (s.ipOk_iff.mp h).1
  · exact matchTells_of_classify rfl fun h => (s.isIpUnicast_iff.mp h).1.1
  · exact matchTells_of_classify rfl fun h => (s.isPingRequest_iff.mp h).1.1
  · exact matchTells_of_classify rfl fun h => (s.isUdp_iff.mp h).1.1

/-- The ARP operations (R154, R155). -/
theorem matchTells_operation :
    MatchTells .isArpRequest s (shortAt s 20 = 1#16) ∧ MatchTells .isArpReply s (shortAt s 20 = 2#16) :=
  ⟨matchTells_of_classify rfl fun h => ((s.arpFor_iff 1#16).mp h).2.2,
    matchTells_of_classify rfl fun h => ((s.arpFor_iff 2#16).mp h).2.2⟩

/-- The protocol byte (R156 to R158). -/
theorem matchTells_protocol :
    MatchTells .isPingRequest s (s.pbAt 23 = 1#8) ∧ MatchTells .isUdp s (s.pbAt 23 = 17#8)
      ∧ MatchTells .isTcp s (s.pbAt 23 = 6#8) :=
  ⟨matchTells_of_classify rfl fun h => (s.isPingRequest_iff.mp h).2.1,
    matchTells_of_classify rfl fun h => (s.isUdp_iff.mp h).2.1, matchTells_of_classify rfl s.isTcp_iff.mp⟩

/-- The flag fields of the ack variants (R159 to R161). -/
theorem matchTells_flagField :
    MatchTells .isTcpAck s (flagField s ∈ [0x012#12, 0x010#12, 0x018#12])
      ∧ MatchTells .isTcpFinAck s (flagField s = 0x011#12)
      ∧ MatchTells .isTcpResetAck s (flagField s = 0x014#12) :=
  ⟨matchTells_of_classify rfl fun h => ((s.tcpWithFlags_iff [0x012#12, 0x010#12, 0x018#12]).mp h).2.2,
    matchTells_of_classify rfl fun h => (s.isTcpFinAck_iff.mp h).2.2,
    matchTells_of_classify rfl fun h => (s.isTcpResetAck_iff.mp h).2.2⟩

/-- The first byte of the MQTT packet (R162 to R165). -/
theorem matchTells_packetType :
    MatchTells .isMqttConnectAck s (s.pbAt (mqttOffset s) = 0x20#8)
      ∧ MatchTells .isMqttSubAck s (s.pbAt (mqttOffset s) = 0x90#8)
      ∧ MatchTells .isMqttUnSubAck s (s.pbAt (mqttOffset s) = 0xB0#8)
      ∧ MatchTells .isMqttPublish s (s.pbAt (mqttOffset s) = 0x30#8) :=
  ⟨matchTells_of_classify rfl fun h => (s.isMqttConnectAck_iff.mp h).2.1,
    matchTells_of_classify rfl fun h => ((s.mqttType_iff 0x90#8).mp h).2,
    matchTells_of_classify rfl fun h => ((s.mqttType_iff 0xB0#8).mp h).2,
    matchTells_of_classify rfl fun h => ((s.mqttType_iff 0x30#8).mp h).2⟩

end

/-- Settles O44: the two commands of each pair ask different values of one field of the frame. -/
theorem predicatesExcludeEachOther : Obligations.PredicatesExcludeEachOther := by
  intro s t u i j hpair ht hu
  obtain ⟨hi, hj⟩ | ⟨rfl, rfl⟩ | hprotocol | hflags | hmqtt := hpair
  · exact (matchTells_typeArp s hi).exclude (matchTells_typeIpv4 s hj) (by decide) ht hu
  · obtain ⟨hrequest, hreply⟩ := matchTells_operation s
    exact hrequest.exclude hreply (by decide) ht hu
  · obtain ⟨hping, hudp, htcp⟩ := matchTells_protocol s
    simp only [List.mem_cons, Prod.mk.injEq, List.not_mem_nil, or_false] at hprotocol
    obtain ⟨rfl, rfl⟩ | ⟨rfl, rfl⟩ | ⟨rfl, rfl⟩ := hprotocol
    · exact hping.exclude hudp (by decide) ht hu
    · exact hping.exclude htcp (by decide) ht hu
    · exact hudp.exclude htcp (by decide) ht hu
  · obtain ⟨hack, hfin, hreset⟩ := matchTells_flagField s
    simp only [List.mem_cons, Prod.mk.injEq, List.not_mem_nil, or_false] at hflags
    obtain ⟨rfl, rfl⟩ | ⟨rfl, rfl⟩ | ⟨rfl, rfl⟩ := hflags
    · rintro ⟨hmi, hmj⟩
      exact absurd (hack t ht hmi) (by rw [hfin u hu hmj]; decide)
    · rintro ⟨hmi, hmj⟩
      exact absurd (hack t ht hmi) (by rw [hreset u hu hmj]; decide)
    · exact hfin.exclude hreset (by decide) ht hu
  · obtain ⟨hconnect, hsub, hunsub, hpublish⟩ := matchTells_packetType s
    simp only [List.mem_cons, Prod.mk.injEq, List.not_mem_nil, or_false] at hmqtt
    obtain ⟨rfl, rfl⟩ | ⟨rfl, rfl⟩ | ⟨rfl, rfl⟩ | ⟨rfl, rfl⟩ | ⟨rfl, rfl⟩ | ⟨rfl, rfl⟩ := hmqtt
    · exact hconnect.exclude hsub (by decide) ht hu
    · exact hconnect.exclude hunsub (by decide) ht hu
    · exact hconnect.exclude hpublish (by decide) ht hu
    · exact hsub.exclude hunsub (by decide) ht hu
    · exact hsub.exclude hpublish (by decide) ht hu
    · exact hunsub.exclude hpublish (by decide) ht hu

/-! ### The status registers as numbers (10_state.md R34 to R36, 30_encoding.md R101) -/

theorem Response.bytes_layout (r : Response) : r.bytes.length = 8 ∧ beNat (r.bytes.drop 2) = r.result.toNat := by
  refine ⟨by simp [Response.bytes], ?_⟩
  rw [Response.bytes, List.drop_succ_cons, List.drop_succ_cons, List.drop_zero, beNat_beBytes_of_lt 6 _ r.result.isLt]

theorem Status.code_le (e : Status) : e.code.toNat ≤ 5 := by
  cases e with
  | ok | txAbort => decide
  | fault f => cases f <;> decide

/-- The four bits of `FLAGS` in place (R35). -/
theorem Flags.byte_layout (f : Flags) :
    f.byte.getLsbD 0 = f.matched ∧ f.byte.getLsbD 1 = f.txok ∧ f.byte.getLsbD 2 = f.ovf
      ∧ f.byte.getLsbD 3 = f.flt ∧ f.byte.toNat < 16 := by
  obtain ⟨matched, txok, ovf, flt⟩ := f
  revert matched txok ovf flt
  decide

theorem FsmState.number_le (q : FsmState) : q.number.toNat ≤ 6 := by
  cases q <;> decide

/-- Settles O60: the layout of the record and of `FLAGS`, the bounds, and the codes and numbers one by one. -/
theorem statusRegistersHaveTheirLayout : Obligations.StatusRegistersHaveTheirLayout :=
  ⟨fun r => ⟨rfl, r.bytes_layout⟩, Status.code_le, Flags.byte_layout, FsmState.number_le, rfl, rfl, rfl, rfl, rfl, rfl,
    rfl, rfl, rfl, rfl, rfl, rfl, rfl⟩

end Sys2Proof.Machine

/-! PROOFS. `BuildTcpSegment` (42_builders.md R186) and the faults before any write (R185, R186): the segment's
headers are one rising sequence of writes, and after them only the payload and the two checksums are written. -/

namespace Sys2Proof.Machine

/-! ### Faults before any write -/

theorem exec_buildUdpReply_of_beyond {s : State} (h : 1522 < s.l4Base + 8 + s.psbLen.toNat) :
    exec .buildUdpReply s = .next (s.raise .bounds) :=
  congrArg Host.Outcome.next (if_pos h)

theorem exec_buildTcpSegment_of_not_accepted {flags : BitVec 16} (h : flags.toNat ∉ acceptedTcpFlags) (s : State) :
    exec (.buildTcpSegment flags) s = .next (s.raise .badOperand) :=
  congrArg Host.Outcome.next (if_neg h)

theorem toNat_mem_acceptedTcpFlags_iff {flags : BitVec 16} :
    flags.toNat ∈ acceptedTcpFlags
      ↔ flags ∈ [0x002#16, 0x010#16, 0x011#16, 0x004#16, 0x014#16, 0x001#16, 0x018#16] :=
  List.mem_map_of_injective (l := [0x002#16, 0x010#16, 0x011#16, 0x004#16, 0x014#16, 0x001#16, 0x018#16])
    fun _ _ => BitVec.eq_of_toNat_eq

/-- The flag fields lie below the data offset in their word (20_memory.md R73). -/
theorem acceptedTcpFlags_lt : ∀ f ∈ acceptedTcpFlags, f < 0x1000 := by decide

/-- Settles O52: both checks stand before the first write. -/
theorem buildersFaultBeforeAnyWrite : Obligations.BuildersFaultBeforeAnyWrite :=
  ⟨fun _ h => faulted_of_raise (exec_buildUdpReply_of_beyond h),
    fun s _ h => faulted_of_raise (exec_buildTcpSegment_of_not_accepted (mt toNat_mem_acceptedTcpFlags_iff.mp h) s)⟩

/-! ### The segment's headers -/

section

variable (s : State) (f : Nat)

/-- Every field that `BuildTcpSegment` writes before the payload, in the order of the offsets (R186). -/
def State.tcpWrites : List (Nat × Nat × Nat) :=
  [(0, 6, s.ctxDstMac.toNat), (6, 6, s.ctxSrcMac.toNat), (12, 2, typeIpv4),
   (14, 1, 0x45), (15, 1, 0x00), (16, 2, 20 + tcpHeaderLength f + s.tcpPayloadLength f),
   (18, 2, s.ipId.toNat), (20, 2, 0x0000), (22, 1, s.params.ipTtl.toNat), (23, 1, protoTcp), (24, 2, 0),
   (26, 4, s.ctxSrcIp.toNat), (30, 4, s.ctxDstIp.toNat),
   (34, 2, s.ctxSrcPort.toNat), (36, 2, s.ctxDstPort.toNat),
   (38, 4, if f = flagSyn then 0 else s.tcpSeq.toNat), (42, 4, if f = flagSyn then 0 else s.tcpAck.toNat),
   (46, 2, tcpHeaderLength f / 4 * 4096 + f), (48, 2, s.params.tcpWindow.toNat), (50, 2, 0), (52, 2, 0)]
    ++ if f = flagSyn then [(54, 4, Config.mssOption)] else []

theorem State.tcpHeader_eq : s.tcpHeader f = s.memWrites (s.tcpWrites f) :=
  (s.memWrites_append _ _).symm

theorem State.tcpWrites_rising : Rising (s.tcpWrites f) := by
  by_cases hsyn : f = flagSyn <;> simp [Rising, State.tcpWrites, hsyn]

theorem State.mssOption_mem_tcpWrites {f : Nat} (hsyn : f = flagSyn) :
    (54, 4, Config.mssOption) ∈ s.tcpWrites f := by
  subst hsyn
  exact List.mem_append_right _ (List.mem_singleton.mpr rfl)

theorem State.tcpWrites_within : ∀ w ∈ s.tcpWrites f, w.1 + w.2.1 ≤ 34 + tcpHeaderLength f := by
  by_cases hsyn : f = flagSyn <;> simp [State.tcpWrites, tcpHeaderLength, hsyn]

theorem State.tcpWrites_apart :
    ∀ w ∈ s.tcpWrites f, w.1 ≠ 24 ∧ w.1 ≠ 50 →
      (w.1 + w.2.1 ≤ 24 ∨ 26 ≤ w.1) ∧ (w.1 + w.2.1 ≤ 50 ∨ 52 ≤ w.1) := by
  by_cases hsyn : f = flagSyn <;> simp [State.tcpWrites, hsyn]

theorem State.tcpWrites_fit {s : State} {f : Nat} (hpsb : s.psbLen.toNat ≤ 1468) (hf : f < 0x1000) :
    ∀ w ∈ s.tcpWrites f, w.2.2 < 256 ^ w.2.1 := by
  have hlen := State.tcpLength_le hpsb f
  have hheader := tcpHeaderLength_le f
  unfold State.tcpWrites
  generalize tcpHeaderLength f = h at *
  generalize s.tcpPayloadLength f = n at *
  split <;> simp [typeIpv4, protoTcp, Config.mssOption] <;> omega

/-- The segment before its checksums. -/
def State.tcpStaged : State :=
  (s.tcpHeader f).pbStore (34 + tcpHeaderLength f) (s.psbBytes 0 (s.tcpPayloadLength f))

theorem tcpHeaderLength_ge : 20 ≤ tcpHeaderLength f := by
  unfold tcpHeaderLength
  split <;> omega

theorem State.memRead_tcpStaged {a n v : Nat} (hmem : (a, n, v) ∈ s.tcpWrites f) (hfits : v < 256 ^ n) :
    (s.tcpStaged f).memRead a n = v := by
  have hwithin : a + n ≤ 34 + tcpHeaderLength f := s.tcpWrites_within f _ hmem
  rw [State.tcpStaged, State.memRead_congr (s.tcpHeader f) _ a n fun k _ hk => ?_, State.tcpHeader_eq]
  · exact (s.tcpWrites_rising f).memRead_memWrites hmem hfits
  · rw [State.pbAt_pbStore, if_neg (by omega)]

theorem State.pbAt_tcpStaged_of_ge {k : Nat} (hk : 34 + tcpHeaderLength f + s.tcpPayloadLength f ≤ k) :
    (s.tcpStaged f).pbAt k = s.pbAt k := by
  rw [State.tcpStaged, State.pbAt_pbStore, State.psbBytes_length, if_neg (by omega), State.tcpHeader_eq]
  exact s.pbAt_memWrites_of_outside _ k fun w hw => .inr ((s.tcpWrites_within f w hw).trans (by omega))

/-! ### The two checksums -/

theorem State.pbAt_tcpStaged_version : (s.tcpStaged f).pbAt 14 = 0x45#8 :=
  (State.memRead_one_eq_iff _ 14 _).mp (s.memRead_tcpStaged f (by simp [State.tcpWrites]) (BitVec.isLt 0x45#8))

theorem State.ihl_injectIp_tcpStaged : (s.tcpStaged f).injectIp.ihl = 20 := by
  rw [State.injectIp, State.ihl_congr (s.tcpStaged f) _ (State.pbAt_inject_of_ne _ _ _ _ (by omega)), State.ihl_eq,
    State.pbAt_tcpStaged_version]
  rfl

theorem State.l4Base_injectIp_tcpStaged : (s.tcpStaged f).injectIp.l4Base = 34 := by
  rw [State.l4Base, State.ihl_injectIp_tcpStaged]

theorem State.tcpFrame_eq : s.tcpFrame f = (s.tcpStaged f).injectIp.inject 50 (fun t => t.l4Sum 6) := by
  change (s.tcpStaged f).injectIp.inject ((s.tcpStaged f).injectIp.l4Base + 16) (fun t => t.l4Sum 6) = _
  rw [State.l4Base_injectIp_tcpStaged]

theorem State.pbAt_tcpFrame {k : Nat} (hk : k ∉ [24, 25, 50, 51]) : (s.tcpFrame f).pbAt k = (s.tcpStaged f).pbAt k := by
  simp only [List.mem_cons, List.not_mem_nil, or_false] at hk
  rw [State.tcpFrame_eq, State.pbAt_inject_of_ne _ _ _ _ (by omega), State.injectIp,
    State.pbAt_inject_of_ne _ _ _ _ (by omega)]

/-- A field that is no checksum stands in the finished segment as written. -/
theorem State.memRead_tcpFrame {a n v : Nat} (hmem : (a, n, v) ∈ s.tcpWrites f) (hfits : v < 256 ^ n)
    (hapart : (a + n ≤ 24 ∨ 26 ≤ a) ∧ (a + n ≤ 50 ∨ 52 ≤ a)) : (s.tcpFrame f).memRead a n = v := by
  rw [State.memRead_congr (s.tcpStaged f) _ a n fun k _ _ => s.pbAt_tcpFrame f (by simp; omega)]
  exact s.memRead_tcpStaged f hmem hfits

theorem State.l4Base_tcpFrame : (s.tcpFrame f).l4Base = 34 := by
  rw [State.tcpFrame_eq, State.l4Base_congr (s.tcpStaged f).injectIp _ (State.pbAt_inject_of_ne _ _ _ _ (by omega)),
    State.l4Base_injectIp_tcpStaged]

end

section

variable {s : State} {f : Nat}

theorem State.fold_ipSum_tcpFrame : fold (s.tcpFrame f).ipSum = 0 := by
  have hihl := s.ihl_injectIp_tcpStaged f
  have hihl' : (s.tcpStaged f).injectIp.ihl = (s.tcpStaged f).ihl :=
    State.ihl_congr _ _ (State.pbAt_inject_of_ne _ _ _ _ (by omega))
  rw [State.tcpFrame_eq, State.ipSum_congr (s.tcpStaged f).injectIp _ fun k hk hk' =>
    State.pbAt_inject_of_ne _ _ _ _ (by omega)]
  exact State.fold_ipSum_inject _ (by omega)

theorem State.l4Len_injectIp_tcpStaged (h : s.psbLen.toNat ≤ 1468) :
    (s.tcpStaged f).injectIp.l4Len = tcpHeaderLength f + s.tcpPayloadLength f := by
  have hlen := State.tcpLength_le h f
  have htotal : (s.tcpStaged f).ipTotLen = 20 + tcpHeaderLength f + s.tcpPayloadLength f :=
    s.memRead_tcpStaged f (by simp [State.tcpWrites]) (by omega)
  have htotal' : (s.tcpStaged f).injectIp.ipTotLen = (s.tcpStaged f).ipTotLen :=
    State.ipTotLen_congr _ _ (State.pbAt_inject_of_ne _ _ _ _ (by omega)) (State.pbAt_inject_of_ne _ _ _ _ (by omega))
  rw [State.l4Len, State.ihl_injectIp_tcpStaged, htotal', htotal]
  omega

theorem State.fold_l4Sum_tcpFrame (h : s.psbLen.toNat ≤ 1468) : fold ((s.tcpFrame f).l4Sum 6) = 0 := by
  have hbase := s.l4Base_injectIp_tcpStaged f
  have hl4 := State.l4Len_injectIp_tcpStaged (f := f) h
  have hleast := tcpHeaderLength_ge f
  have hlen := State.tcpLength_le h f
  have hfold := (s.tcpStaged f).injectIp.fold_l4Sum_inject 6 16 (by decide) rfl (by omega) (by omega) (by omega)
    (by omega)
  rwa [hbase, ← State.tcpFrame_eq] at hfold

end

/-- Settles O51: each checksum is injected over the bytes it sums, and neither write lies in the other's field. -/
theorem tcpSegmentChecksumsVerify : Obligations.TcpSegmentChecksumsVerify := by
  intro s t flags hpsb hflags hexec
  rw [exec_buildTcpSegment_of_accepted (toNat_mem_acceptedTcpFlags_iff.mpr hflags)] at hexec
  obtain rfl := Host.Outcome.next.inj hexec
  have htype : (s.tcpFrame flags.toNat).ethType = typeIpv4 :=
    s.memRead_tcpFrame _ (by simp [State.tcpWrites]) (by decide) (by omega)
  have hvalid : ipHeaderValid (s.tcpFrame flags.toNat) := by
    rw [← State.ipOk_iff, State.ipOk, htype, State.fold_ipSum_tcpFrame]
    rfl
  refine ⟨(ipHeaderValid_congr fun k _ _ => State.pbAt_transmit ..).mpr hvalid, ?_, ?_⟩
  · exact (State.l4Base_transmit _ _).trans (s.l4Base_tcpFrame _)
  · exact (congrArg fold (State.l4Sum_transmit _ _ 6)).trans (State.fold_l4Sum_tcpFrame hpsb)

/-! ### Every field of the segment -/

section

variable (s : State) (f : Nat)

theorem State.pbBytes_tcpFrame_payload :
    (s.tcpFrame f).pbBytes (34 + tcpHeaderLength f) (s.tcpPayloadLength f) = s.psbBytes 0 (s.tcpPayloadLength f) := by
  have hleast := tcpHeaderLength_ge f
  rw [State.pbBytes_congr (s.tcpStaged f) _ _ _ fun k hk _ => s.pbAt_tcpFrame f (by simp; omega)]
  exact State.pbBytes_pbStore_same _ _ _ _ (State.psbBytes_length ..)

theorem State.tcpFrame_pbKeptOutside :
    PbKeptOutside 0 (34 + tcpHeaderLength f + s.tcpPayloadLength f) s (s.tcpFrame f) := by
  intro k hk
  have hleast := tcpHeaderLength_ge f
  rw [State.pbAt_tcpFrame _ _ (by simp; omega), State.pbAt_tcpStaged_of_ge _ _ (by omega)]

end

/-- Settles O50: the fields of one rising sequence of writes, the payload behind them, and the checksums elsewhere. -/
theorem tcpSegmentCarriesTheContext : Obligations.TcpSegmentCarriesTheContext := by
  intro s flags h n hpsb hflags hh hn
  have hsyn : flags = 0x002#16 ↔ flags.toNat = flagSyn := BitVec.toNat_inj.symm
  have hpush : flags = 0x018#16 ↔ flags.toNat = flagPushAck := BitVec.toNat_inj.symm
  have hh' : h = tcpHeaderLength flags.toNat := by simp only [hh, hsyn, tcpHeaderLength]
  have hn' : n = s.tcpPayloadLength flags.toNat := by simp only [hn, hpush, State.tcpPayloadLength]
  clear hh hn
  subst hh' hn'
  have haccepted := toNat_mem_acceptedTcpFlags_iff.mpr hflags
  have hfits := State.tcpWrites_fit hpsb (acceptedTcpFlags_lt _ haccepted)
  have hapart := s.tcpWrites_apart flags.toNat
  have hfields {a n v : Nat} (hmem : (a, n, v) ∈ s.tcpWrites flags.toNat) (hchecksums : a ≠ 24 ∧ a ≠ 50) :
      (s.tcpFrame flags.toNat).memRead a n = v :=
    s.memRead_tcpFrame _ hmem (hfits _ hmem) (hapart _ hmem hchecksums)
  refine ⟨_, exec_buildTcpSegment_of_accepted haccepted s, ?_⟩
  rw [State.sendTcpSegment]
  simp only [State.macAt_transmit, State.longAt_transmit, State.shortAt_transmit, State.pbAt_transmit,
    State.pbBytes_transmit, ← State.memRead_one_eq_iff, ← State.memRead_two_eq_iff, ← State.memRead_four_eq_iff,
    ← State.memRead_six_eq_iff, ← State.memRead_two_eq_shortAt, apply_ite BitVec.toNat, hsyn]
  refine ⟨hfields ?_ ?_, hfields ?_ ?_, hfields ?_ ?_, hfields ?_ ?_, hfields ?_ ?_, hfields ?_ ?_, hfields ?_ ?_,
    hfields ?_ ?_, hfields ?_ ?_, hfields ?_ ?_, hfields ?_ ?_, hfields ?_ ?_, hfields ?_ ?_, hfields ?_ ?_,
    hfields ?_ ?_, hfields ?_ ?_, hfields ?_ ?_, hfields ?_ ?_, hfields ?_ ?_,
    fun h => hfields (s.mssOption_mem_tcpWrites h) ?_, s.pbBytes_tcpFrame_payload _,
    (s.tcpFrame_pbKeptOutside _).transmit _, s.sendTcpSegment_sent _⟩
  -- each field stands in the list of writes, at its offset and width
  all_goals simp [State.tcpWrites, typeIpv4, protoTcp]

end Sys2Proof.Machine

/-! PROOFS. `BuildIcmpEchoReply` (42_builders.md R184): the addresses exchanged byte by byte, then a type and a
checksum written at a place that the header length decides. -/

namespace Sys2Proof.Machine

/-! ### Exchanged addresses -/

theorem State.pbAt_swapped (s : State) (k : Nat) : s.swapEth.swapIp.pbAt k = exchangedAt s k := by
  rcases Nat.lt_or_ge k 26 with h26 | h26
  · rcases Nat.lt_or_ge k 12 with h12 | h12
    · rw [State.pbAt_swapped_mac s k h12, exchangedAt, if_pos h12]
    · rw [State.pbAt_swapped_of_outside s k h12 (by omega), exchangedAt, if_neg (by omega), if_neg (by omega),
        if_pos h26]
  · rcases Nat.lt_or_ge k 34 with h34 | h34
    · have h12 : ¬ (k < 6 ∨ k < 12) := by omega
      rw [not_or] at h12
      simp only [State.pbAt_swapped_ip s k h26 h34, exchangedAt, h12, Nat.not_lt.mpr h26, h34, if_true, if_false]
    · rw [State.pbAt_swapped_of_outside s k (by omega) (by omega), exchangedAt, if_neg (by omega), if_neg (by omega),
        if_neg (by omega), if_neg (by omega), if_neg (by omega)]

theorem State.shortAt_swapped (s : State) (a : Nat) :
    shortAt s.swapEth.swapIp a = exchangedAt s a ++ exchangedAt s (a + 1) := by
  rw [shortAt, State.pbAt_swapped, State.pbAt_swapped]

theorem exchangedAt_of_outside (s : State) {k : Nat} (h : 12 ≤ k ∧ k < 26 ∨ 34 ≤ k) : exchangedAt s k = s.pbAt k := by
  rw [← State.pbAt_swapped, State.pbAt_swapped_of_outside s k (by omega) (by omega)]

section

variable {s t : State}

/-- The hardware addresses of a frame whose first twelve bytes were only exchanged (R184). -/
theorem macAt_of_exchanged (h : ∀ k, k < 12 → t.pbAt k = exchangedAt s k) :
    macAt t 0 = macAt s 6 ∧ macAt t 6 = macAt s 0 := by
  simp [macAt, h, exchangedAt]

/-- The protocol addresses of a frame whose bytes 26 to 33 were only exchanged (R184). -/
theorem longAt_of_exchanged (h : ∀ k, 26 ≤ k → k < 34 → t.pbAt k = exchangedAt s k) :
    longAt t 26 = longAt s 30 ∧ longAt t 30 = longAt s 26 := by
  simp [longAt, h, exchangedAt]

/-- A whole header with its addresses exchanged has the sum it had (R184). -/
theorem ipSum_of_exchanged (hheader : 20 ≤ s.ihl) (h : ∀ k, 14 ≤ k → k < 14 + s.ihl → t.pbAt k = exchangedAt s k) :
    t.ipSum = s.ipSum := by
  have hihl : t.ihl = s.ihl :=
    State.ihl_congr s t ((h 14 (by omega) (by omega)).trans (exchangedAt_of_outside s (by omega)))
  apply BitVec.eq_of_toNat_eq
  rw [State.ipSum_toNat, State.ipSum_toNat, hihl]
  calc exactWordSum t.pbAt 14 s.ihl = exactWordSum s.swapEth.pbAt 14 s.ihl :=
        exactWordSum_swapped _ _ _ hheader fun k hk hk' => by rw [h k hk hk', ← State.pbAt_swapped, State.pbAt_swapIp]
    _ = exactWordSum s.pbAt 14 s.ihl :=
        exactWordSum_congr _ _ _ _ fun k _ _ => by rw [State.pbAt_swapEth, if_neg (by omega), if_neg (by omega)]

end

/-! ### `BuildIcmpEchoReply` -/

section

variable (s : State)

/-- The request with its addresses exchanged and its type zeroed, before the checksum (R184). -/
def State.icmpTyped : State := s.swapEth.swapIp.memWrite s.l4Base 1 0

theorem State.l4Base_swapped : s.swapEth.swapIp.l4Base = s.l4Base :=
  State.l4Base_congr s _ (State.pbAt_swapped_of_outside s 14 (by omega) (by omega))

theorem State.icmpReplyFrame_eq : s.icmpReplyFrame = s.icmpTyped.injectIcmp := by
  rw [State.icmpReplyFrame, State.l4Base_swapped, State.icmpTyped]

theorem State.pbAt_icmpTyped {k : Nat} (hk : k ≠ s.l4Base) : s.icmpTyped.pbAt k = exchangedAt s k := by
  rw [State.icmpTyped, State.pbAt_memWrite, if_neg (by omega), State.pbAt_swapped]

theorem State.pbAt_icmpTyped_type : s.icmpTyped.pbAt s.l4Base = 0#8 :=
  (State.memRead_one_eq_iff s.icmpTyped s.l4Base 0#8).mp (State.memRead_memWrite_same ..)

end

section

variable {s : State}

/-- A header of four bytes or more covers its own length and the total length. -/
theorem State.icmpTyped_lengths (hheader : 4 ≤ s.ihl) :
    s.icmpTyped.l4Base = s.l4Base ∧ s.icmpTyped.ipTotLen = s.ipTotLen ∧ s.icmpTyped.l4Len = s.l4Len := by
  have hbase : s.l4Base = 14 + s.ihl := rfl
  have hkept : ∀ k, 12 ≤ k → k < 18 → s.icmpTyped.pbAt k = s.pbAt k := fun k _ _ =>
    (s.pbAt_icmpTyped (by omega)).trans (exchangedAt_of_outside s (by omega))
  exact ⟨State.l4Base_congr _ _ (hkept 14 (by omega) (by omega)),
    State.ipTotLen_congr _ _ (hkept 16 (by omega) (by omega)) (hkept 17 (by omega) (by omega)),
    State.l4Len_congr _ _ (hkept 14 (by omega) (by omega)) (hkept 16 (by omega) (by omega))
      (hkept 17 (by omega) (by omega))⟩

theorem State.pbAt_icmpReplyFrame (hheader : 4 ≤ s.ihl) {k : Nat} (hk : k ≠ s.l4Base + 2 ∧ k ≠ s.l4Base + 3) :
    s.icmpReplyFrame.pbAt k = s.icmpTyped.pbAt k := by
  obtain ⟨hbase, -, -⟩ := State.icmpTyped_lengths hheader
  rw [State.icmpReplyFrame_eq, State.injectIcmp, State.pbAt_inject_of_ne _ _ _ _ (by omega)]

theorem State.pbAt_icmpReplyFrame_of_ne (hheader : 4 ≤ s.ihl) {k : Nat}
    (hk : k ≠ s.l4Base ∧ k ≠ s.l4Base + 2 ∧ k ≠ s.l4Base + 3) : s.icmpReplyFrame.pbAt k = exchangedAt s k :=
  (State.pbAt_icmpReplyFrame hheader hk.2).trans (s.pbAt_icmpTyped hk.1)

theorem State.ipTotLen_icmpReplyFrame (hheader : 4 ≤ s.ihl) : s.icmpReplyFrame.ipTotLen = s.ipTotLen := by
  obtain ⟨-, htotal, -⟩ := State.icmpTyped_lengths hheader
  have hbase : s.l4Base = 14 + s.ihl := rfl
  exact (State.ipTotLen_congr _ _ (State.pbAt_icmpReplyFrame hheader (by omega))
    (State.pbAt_icmpReplyFrame hheader (by omega))).trans htotal

theorem State.fold_icmpSum_icmpReplyFrame (hheader : 4 ≤ s.ihl) (hlen : 4 ≤ s.l4Len) (hfits : s.l4Len < 65536) :
    fold s.icmpReplyFrame.icmpSum = 0 := by
  obtain ⟨hbase, -, hl4⟩ := State.icmpTyped_lengths hheader
  have hbase' : s.l4Base = 14 + s.ihl := rfl
  rw [State.icmpReplyFrame_eq]
  exact s.icmpTyped.fold_icmpSum_inject (by omega) (by omega) (by omega)

theorem exec_buildIcmpEchoReply (hfault : s.l4Fault 4 = none) (h : 14 + s.icmpReplyFrame.ipTotLen ≤ 1522) :
    exec .buildIcmpEchoReply s = .next (s.icmpReplyFrame.transmit (14 + s.icmpReplyFrame.ipTotLen)) := by
  rw [exec, execBuildIcmpEchoReply, hfault]
  exact congrArg Host.Outcome.next (if_neg (Nat.not_lt.mpr h))

theorem exec_buildIcmpEchoReply_of_beyond (hfault : s.l4Fault 4 = none)
    (h : 1522 < 14 + s.icmpReplyFrame.ipTotLen) : exec .buildIcmpEchoReply s = .next (s.raise .bounds) := by
  rw [exec, execBuildIcmpEchoReply, hfault]
  exact congrArg Host.Outcome.next (if_pos h)

end

/-- Settles O47: outside its type and its checksum the reply is the request with the addresses exchanged. -/
theorem icmpEchoReplyMirrorsTheRequest : Obligations.IcmpEchoReplyMirrorsTheRequest := by
  intro s hheader hleast hinside
  have hbase : s.l4Base = 14 + s.ihl := rfl
  have hl4 : s.l4Len = s.ipTotLen - s.ihl := rfl
  have hdvd := s.ihl_dvd
  have htotal := State.ipTotLen_icmpReplyFrame hheader
  have hpb {k : Nat} := State.pbAt_icmpReplyFrame_of_ne (k := k) hheader
  have hexec := exec_buildIcmpEchoReply ((s.l4Fault_eq_none 4).mpr ⟨by omega, hinside, by omega⟩) (by omega)
  rw [htotal] at hexec
  obtain ⟨hdst, hsrc⟩ := macAt_of_exchanged fun k _ => hpb (k := k) (by omega)
  have hsent := s.icmpReplyFrame_pbOnly.sent (14 + s.ipTotLen)
  refine ⟨_, hexec, ?_⟩
  simp only [State.macAt_transmit, State.longAt_transmit, State.pbAt_transmit, State.ipSum_transmit, State.acc_transmit,
    State.l4Base_transmit, State.l4Len_transmit]
  refine ⟨hdst, hsrc, ?_, fun h => ?_, ?_, fun h => ?_, fun k _ _ hk hk2 hk3 => ?_, hsent⟩
  · rw [State.pbAt_icmpReplyFrame hheader (by omega), State.pbAt_icmpTyped_type]
  · exact longAt_of_exchanged fun k _ _ => hpb (by omega)
  · exact State.fold_icmpSum_icmpReplyFrame hheader (by omega) (by omega)
  · exact ipSum_of_exchanged h fun k _ _ => hpb (by omega)
  · rw [hpb ⟨hk, hk2, hk3⟩, exchangedAt_of_outside s (by omega)]

end Sys2Proof.Machine

/-! PROOFS. `BuildUdpReply` (42_builders.md R185) write by write, for any place of the datagram, and both replies to a
header length of zero, where those writes lie on the lengths read next (log 9). -/

namespace Sys2Proof.Machine

/-! ### The echo reply to a header length of zero (log 9) -/

/-- The checksum field lies on the total length, and of nothing the checksum is all ones. -/
theorem State.ipTotLen_icmpReplyFrame_of_zero {s : State} (hzero : s.ihl = 0) : s.icmpReplyFrame.ipTotLen = 65535 := by
  have hbase : s.l4Base = 14 := by rw [State.l4Base, hzero]
  have htyped : s.icmpTyped.l4Base = 14 := by
    have htype := s.pbAt_icmpTyped_type
    rw [hbase] at htype
    rw [State.l4Base_eq_payloadOffset, payloadOffset, htype]
    rfl
  have hempty : (s.icmpTyped.memWrite 16 2 0).l4Len = 0 := by
    rw [State.l4Len, State.ipTotLen, State.memRead_memWrite_same, Nat.zero_mod, Nat.zero_sub]
  have hsum : (s.icmpTyped.memWrite 16 2 0).icmpSum.toNat = 0 := by
    rw [State.icmpSum_toNat _ (by omega), hempty, exactWordSum_zero]
  rw [State.icmpReplyFrame_eq, State.injectIcmp, htyped, State.ipTotLen, State.memRead_inject, State.checksumFor,
    fold_toNat, if_pos hsum]

/-! ### The UDP reply, part by part -/

section

variable (s : State) (u n : Nat)

/-- The datagram's ports, exchanged, and its length (R185). -/
def State.udpWrites : List (Nat × Nat × Nat) :=
  [(u, 2, s.swapEth.swapIp.memRead (u + 2) 2), (u + 2, 2, s.swapEth.swapIp.memRead u 2), (u + 4, 2, 8 + n)]

theorem State.udpWrites_rising : Rising (s.udpWrites u n) := by
  simp [Rising, State.udpWrites]

theorem State.memRead_udpReplyPorts {a m v : Nat} (hmem : (a, m, v) ∈ s.udpWrites u n) (hfits : v < 256 ^ m) :
    (s.udpReplyPorts u n).memRead a m = v :=
  (s.udpWrites_rising u n).memRead_memWrites hmem hfits

theorem State.shortAt_udpReplyPorts :
    shortAt (s.udpReplyPorts u n) u = exchangedAt s (u + 2) ++ exchangedAt s (u + 3)
      ∧ shortAt (s.udpReplyPorts u n) (u + 2) = exchangedAt s u ++ exchangedAt s (u + 1) := by
  simp only [← State.shortAt_swapped, ← State.memRead_two_eq_iff, ← State.memRead_two_eq_shortAt]
  exact ⟨s.memRead_udpReplyPorts u n (by simp [State.udpWrites]) (State.memRead_lt ..),
    s.memRead_udpReplyPorts u n (by simp [State.udpWrites]) (State.memRead_lt ..)⟩

theorem State.shortAt_udpReplyPorts_length (hn : 8 + n < 65536) :
    (shortAt (s.udpReplyPorts u n) (u + 4)).toNat = 8 + n := by
  rw [← State.memRead_two_eq_shortAt]
  exact s.memRead_udpReplyPorts u n (by simp [State.udpWrites]) hn

/-- Behind the datagram's header the reply with its payload differs from it in the total length and the header
checksum. -/
theorem State.pbAt_udpReplyPayload_of_ne {k : Nat} (hk : k < u + 8 ∨ u + 8 + n ≤ k) (hne : k ∉ [16, 17, 24, 25]) :
    (s.udpReplyPayload u n).pbAt k = (s.udpReplyPorts u n).pbAt k := by
  simp only [List.mem_cons, List.not_mem_nil, or_false] at hne
  rw [State.pbAt_udpReplyPayload s u n k hk, State.pbAt_udpReplyHeader s u n k (by omega) (by omega) (by omega)]

theorem State.pbBytes_udpReplyPayload : (s.udpReplyPayload u n).pbBytes (u + 8) n = s.psbBytes 0 n :=
  State.pbBytes_pbStore_same _ _ _ _ (State.psbBytes_length ..)

/-- The payload lies behind the header-length nibble. -/
theorem State.ihl_udpReplyPayload (hu : 14 ≤ u) : (s.udpReplyPayload u n).ihl = (s.udpReplyPorts u n).ihl :=
  State.ihl_congr _ _ (s.pbAt_udpReplyPayload_of_ne u n (by omega) (by simp))

/-- The payload and the header checksum lie behind the total length. -/
theorem State.ipTotLen_udpReplyPayload (hu : 14 ≤ u) (hn : n ≤ 1522) :
    (s.udpReplyPayload u n).ipTotLen = (s.udpReplyPorts u n).ihl + 8 + n := by
  have hihl := (s.udpReplyPorts u n).ihl_le
  rw [State.ipTotLen, State.memRead_congr (s.udpReplyHeader u n) _ 16 2 fun k _ _ =>
      s.pbAt_udpReplyPayload u n k (by omega), State.udpReplyHeader, State.injectIp,
    State.memRead_congr _ _ 16 2 fun k _ _ => State.pbAt_inject_of_ne _ _ _ _ (by omega), State.memRead_memWrite_same]
  exact Nat.mod_eq_of_lt (by omega)

theorem State.l4Base_udpReplyPayload (hu : 14 ≤ u) :
    (s.udpReplyPayload u n).l4Base = 14 + (s.udpReplyPorts u n).ihl := by
  rw [State.l4Base, State.ihl_udpReplyPayload s u n hu]

theorem State.l4Len_udpReplyPayload (hu : 14 ≤ u) (hn : n ≤ 1522) : (s.udpReplyPayload u n).l4Len = 8 + n := by
  rw [State.l4Len, State.ihl_udpReplyPayload s u n hu, State.ipTotLen_udpReplyPayload s u n hu hn]
  omega

/-- The bytes after `InjectUdp()`: its field, and the reply with its payload. -/
theorem State.pbAt_injectUdp_of_ne (t : State) {k : Nat} (hk : k < t.l4Base + 6 ∨ t.l4Base + 8 ≤ k) :
    t.injectUdp.pbAt k = t.pbAt k :=
  State.pbAt_inject_of_ne _ _ _ _ hk

/-- The whole reply, transmitted next (R185). -/
def State.udpReplyFrame : State := (s.udpReplyPayload u n).injectUdp

end

section

variable {s : State}

theorem exec_buildUdpReply (hfirst : s.l4Base + 8 + s.psbLen.toNat ≤ 1522)
    (hsecond : 14 + (s.udpReplyPorts s.l4Base s.psbLen.toNat).ihl + (8 + s.psbLen.toNat) ≤ 1522) :
    exec .buildUdpReply s
      = .next ((s.udpReplyFrame s.l4Base s.psbLen.toNat).transmit (s.l4Base + 8 + s.psbLen.toNat)) := by
  have hu : 14 ≤ s.l4Base := Nat.le_add_right ..
  rw [← s.l4Base_udpReplyPayload _ _ hu, ← s.l4Len_udpReplyPayload _ s.psbLen.toNat hu (by omega)] at hsecond
  exact congrArg Host.Outcome.next ((if_neg (Nat.not_lt.mpr hfirst)).trans (if_neg (Nat.not_lt.mpr hsecond)))

theorem exec_buildUdpReply_of_sum_beyond (hfirst : s.l4Base + 8 + s.psbLen.toNat ≤ 1522)
    (hsecond : 1522 < 14 + (s.udpReplyPorts s.l4Base s.psbLen.toNat).ihl + (8 + s.psbLen.toNat)) :
    exec .buildUdpReply s = .next (s.raise .bounds) := by
  have hu : 14 ≤ s.l4Base := Nat.le_add_right ..
  rw [← s.l4Base_udpReplyPayload _ _ hu, ← s.l4Len_udpReplyPayload _ s.psbLen.toNat hu (by omega)] at hsecond
  exact congrArg Host.Outcome.next ((if_neg (Nat.not_lt.mpr hfirst)).trans (if_pos hsecond))

end

/-! ### The UDP reply to a header length of zero (log 9) -/

section

variable {s : State} {n : Nat}

/-- The ports lie on the header length and the total length. -/
theorem State.shortAt_udpReplyPorts_of_zero : shortAt (s.udpReplyPorts 14 n) 14 = shortAt s 16 := by
  refine (s.shortAt_udpReplyPorts 14 n).1.trans ?_
  rw [exchangedAt_of_outside s (by omega), exchangedAt_of_outside s (by omega), shortAt]

theorem State.ihl_udpReplyPorts_of_zero : (s.udpReplyPorts 14 n).ihl = (s.pbAt 16).toNat % 16 * 4 := by
  have hbytes := congrArg BitVec.toNat (State.shortAt_udpReplyPorts_of_zero (s := s) (n := n))
  simp only [shortAt, toNat_append_byte, Nat.reduceAdd] at hbytes
  rw [State.ihl_eq]
  omega

/-- The checksum of the datagram then described lies behind its length field. -/
theorem State.pbAt_udpReplyFrame_of_zero {k : Nat}
    (hk : k < 20 ∨ 22 + (s.pbAt 16).toNat % 16 * 4 ≤ k) :
    (s.udpReplyFrame 14 n).pbAt k = (s.udpReplyPayload 14 n).pbAt k := by
  refine State.pbAt_injectUdp_of_ne _ ?_
  rw [State.l4Base_udpReplyPayload s 14 n (by omega), State.ihl_udpReplyPorts_of_zero]
  omega

theorem State.udpReplyFrame_fields_of_zero (hn : n ≤ 1500) :
    shortAt (s.udpReplyFrame 14 n) 14 = shortAt s 16
      ∧ (shortAt (s.udpReplyFrame 14 n) 16).toNat = (s.pbAt 16).toNat % 16 * 4 + 8 + n
      ∧ (shortAt (s.udpReplyFrame 14 n) 18).toNat = 8 + n := by
  have hframe : ∀ k, k < 20 → (s.udpReplyFrame 14 n).pbAt k = (s.udpReplyPayload 14 n).pbAt k := fun k hk =>
    State.pbAt_udpReplyFrame_of_zero (by omega)
  have hports : ∀ k, k < 16 ∨ 18 ≤ k ∧ k < 20 → (s.udpReplyFrame 14 n).pbAt k = (s.udpReplyPorts 14 n).pbAt k :=
    fun k hk => (hframe k (by omega)).trans (s.pbAt_udpReplyPayload_of_ne 14 n (by omega) (by simp; omega))
  refine ⟨?_, ?_, ?_⟩
  · rw [shortAt, hports 14 (by omega), hports 15 (by omega)]
    exact State.shortAt_udpReplyPorts_of_zero
  · rw [shortAt, hframe 16 (by omega), hframe 17 (by omega), ← State.ihl_udpReplyPorts_of_zero (n := n),
      ← s.ipTotLen_udpReplyPayload 14 n (by omega) (by omega)]
    exact (State.memRead_two_eq_shortAt _ 16).symm
  · rw [shortAt, hports 18 (by omega), hports 19 (by omega)]
    exact s.shortAt_udpReplyPorts_length 14 n (by omega)

/-- The addresses are exchanged whatever the header length. -/
theorem State.pbAt_udpReplyPayload_of_lt {u k : Nat} (hk : k < 12) (hu : 14 ≤ u) :
    (s.udpReplyPayload u n).pbAt k = exchangedAt s k := by
  rw [State.pbAt_udpReplyPayload_of_ne s u n (by omega) (by simp; omega), State.pbAt_udpReplyPorts s u n k (by omega),
    State.pbAt_swapped]

end

/-- Settles O49: both replies write over the lengths they then read, and check what they have read. -/
theorem zeroHeaderLengthNeverLeavesTheBuffer : Obligations.ZeroHeaderLengthNeverLeavesTheBuffer := by
  intro s hzero
  have hbase : s.l4Base = 14 := by rw [State.l4Base, hzero]
  refine ⟨fun hleast hinside => faulted_of_raise (exec_buildIcmpEchoReply_of_beyond ?_ ?_), fun hfirst => ?_⟩
  · exact (s.l4Fault_eq_none 4).mpr ⟨by omega, hinside, by unfold State.l4Len; omega⟩
  · rw [State.ipTotLen_icmpReplyFrame_of_zero hzero]
    decide
  have hihl := State.ihl_udpReplyPorts_of_zero (s := s) (n := s.psbLen.toNat)
  have hsent := (s.udpReplyFrame_pbOnly 14 s.psbLen.toNat).sent (22 + s.psbLen.toNat)
  rcases Nat.lt_or_ge 1522 (22 + (s.pbAt 16).toNat % 16 * 4 + s.psbLen.toNat) with hbeyond | hinside
  · have hexec := exec_buildUdpReply_of_sum_beyond (s := s) (by omega) (by rw [hbase]; omega)
    exact ⟨_, hexec, fun h => absurd h (Nat.not_le.mpr hbeyond), fun _ => s.raise_faulted .bounds⟩
  · have hexec := exec_buildUdpReply (s := s) (by omega) (by rw [hbase]; omega)
    rw [hbase, show 14 + 8 + s.psbLen.toNat = 22 + s.psbLen.toNat from rfl] at hexec
    refine ⟨_, hexec, fun _ => ?_, fun h => absurd h (Nat.not_lt.mpr hinside)⟩
    simp only [State.macAt_transmit, State.shortAt_transmit, State.pbAt_transmit]
    obtain ⟨hlengths, htotal, hudp⟩ := State.udpReplyFrame_fields_of_zero (s := s) (n := s.psbLen.toNat) (by omega)
    obtain ⟨hdst, hsrc⟩ := macAt_of_exchanged (t := s.udpReplyFrame 14 s.psbLen.toNat) fun k hk =>
      (State.pbAt_udpReplyFrame_of_zero (by omega)).trans (State.pbAt_udpReplyPayload_of_lt hk (by omega))
    refine ⟨hlengths, htotal, hudp, hdst, hsrc, fun k hk => ?_, hsent⟩
    rw [State.pbAt_udpReplyFrame_of_zero (by omega), State.pbAt_udpReplyPayload_of_ne _ _ _ (by omega) (by simp; omega),
      State.pbAt_udpReplyPorts _ _ _ _ (by omega), State.pbAt_swapped, exchangedAt_of_outside s (by omega)]

end Sys2Proof.Machine

/-! PROOFS. `BuildUdpReply` behind a header of four bytes or more (42_builders.md R185): the lengths stay before the
datagram, so the place of every write is known from the request. -/

namespace Sys2Proof.Machine

/-! ### An injected field and its sum -/

section

variable (s : State) (f : Nat) (sumOf : State → BitVec 32)

theorem State.shortAt_inject : shortAt (s.inject f sumOf) f = fold (sumOf (s.memWrite f 2 0)) :=
  (State.memRead_two_eq_iff _ f _).mp (s.memRead_inject f sumOf)

/-- With its field zeroed again, a buffer is as it was when the sum was taken. -/
theorem State.pbAt_inject_zeroed (k : Nat) :
    ((s.inject f sumOf).memWrite f 2 0).pbAt k = (s.memWrite f 2 0).pbAt k := by
  rw [State.pbAt_memWrite, State.pbAt_memWrite]
  split
  · rfl
  · exact s.pbAt_inject_of_ne f k sumOf (by omega)

end

/-! ### The UDP reply behind a header of four bytes or more -/

section

variable {s : State} {n : Nat}

/-- The datagram then lies behind the header length and the total length. -/
theorem State.ihl_udpReplyPorts (hheader : 4 ≤ s.ihl) : (s.udpReplyPorts s.l4Base n).ihl = s.ihl := by
  have hbase : s.l4Base = 14 + s.ihl := rfl
  apply State.ihl_congr
  rw [State.pbAt_udpReplyPorts _ _ _ _ (by omega), State.pbAt_swapped, exchangedAt_of_outside s (by omega)]

theorem State.l4Base_udpReplyPayload_eq (hheader : 4 ≤ s.ihl) : (s.udpReplyPayload s.l4Base n).l4Base = s.l4Base := by
  rw [State.l4Base_udpReplyPayload s s.l4Base n (Nat.le_add_right 14 s.ihl), State.ihl_udpReplyPorts hheader,
    State.l4Base]

theorem State.udpReplyFrame_eq (hheader : 4 ≤ s.ihl) :
    s.udpReplyFrame s.l4Base n = (s.udpReplyPayload s.l4Base n).inject (s.l4Base + 6) (fun t => t.l4Sum 17) := by
  rw [State.udpReplyFrame, State.injectUdp, State.l4Base_udpReplyPayload_eq hheader, protoUdp]

section

variable (hheader : 4 ≤ s.ihl) {k : Nat}

include hheader

theorem State.pbAt_udpReplyFrame (hk : k < s.l4Base + 6 ∨ s.l4Base + 8 ≤ k) :
    (s.udpReplyFrame s.l4Base n).pbAt k = (s.udpReplyPayload s.l4Base n).pbAt k := by
  rw [State.udpReplyFrame_eq hheader, State.pbAt_inject_of_ne _ _ _ _ (by omega)]

theorem State.pbAt_udpReplyFrame_of_lt (hk : k < s.l4Base + 6) :
    (s.udpReplyFrame s.l4Base n).pbAt k = (s.udpReplyHeader s.l4Base n).pbAt k := by
  rw [State.pbAt_udpReplyFrame hheader (.inl hk), State.pbAt_udpReplyPayload _ _ _ _ (by omega)]

/-- But for the total length and the header checksum, the bytes before the UDP checksum are those of the first
writes. -/
theorem State.pbAt_udpReplyFrame_of_ports (hk : k < s.l4Base + 6 ∨ s.l4Base + 8 + n ≤ k) (hne : k ∉ [16, 17, 24, 25]) :
    (s.udpReplyFrame s.l4Base n).pbAt k = (s.udpReplyPorts s.l4Base n).pbAt k := by
  rw [State.pbAt_udpReplyFrame hheader (by omega), State.pbAt_udpReplyPayload_of_ne _ _ _ (by omega) hne]

/-- Outside the datagram, the total length and the header checksum, the addresses are exchanged and nothing else. -/
theorem State.pbAt_udpReplyFrame_of_outside (hk : k < s.l4Base ∨ s.l4Base + 8 + n ≤ k) (hne : k ∉ [16, 17, 24, 25]) :
    (s.udpReplyFrame s.l4Base n).pbAt k = exchangedAt s k := by
  rw [State.pbAt_udpReplyFrame_of_ports hheader (by omega) hne, State.pbAt_udpReplyPorts _ _ _ _ (by omega),
    State.pbAt_swapped]

theorem State.shortAt_udpReplyFrame_of_ports (hk : k + 1 < s.l4Base + 6) (hne : k ∉ [15, 16, 17, 23, 24, 25]) :
    shortAt (s.udpReplyFrame s.l4Base n) k = shortAt (s.udpReplyPorts s.l4Base n) k := by
  simp only [List.mem_cons, List.not_mem_nil, or_false] at hne
  rw [shortAt, shortAt, State.pbAt_udpReplyFrame_of_ports hheader (by omega) (by simp; omega),
    State.pbAt_udpReplyFrame_of_ports hheader (by omega) (by simp; omega)]

/-! #### The lengths -/

theorem State.ipTotLen_udpReplyFrame (hn : n ≤ 1522) :
    (shortAt (s.udpReplyFrame s.l4Base n) 16).toNat = s.ihl + 8 + n := by
  have hbase : s.l4Base = 14 + s.ihl := rfl
  have htotal := s.ipTotLen_udpReplyPayload s.l4Base n (Nat.le_add_right 14 s.ihl) hn
  rw [State.ihl_udpReplyPorts hheader] at htotal
  rw [shortAt, State.pbAt_udpReplyFrame hheader (by omega), State.pbAt_udpReplyFrame hheader (by omega), ← htotal]
  exact (State.memRead_two_eq_shortAt _ 16).symm

/-! #### The header checksum -/

/-- The header before its checksum. -/
theorem State.udpReplyHeader_eq :
    ∃ h : State, h.ihl = s.ihl ∧ s.udpReplyHeader s.l4Base n = h.inject 24 State.ipSum := by
  refine ⟨_, ?_, rfl⟩
  rw [State.ihl_congr (s.udpReplyPorts s.l4Base n) _ (State.pbAt_memWrite_of_lt _ _ _ _ _ (by omega)),
    State.ihl_udpReplyPorts hheader]

theorem State.ihl_udpReplyHeader : (s.udpReplyHeader s.l4Base n).ihl = s.ihl := by
  obtain ⟨h, hihl, heq⟩ := State.udpReplyHeader_eq (n := n) hheader
  rw [heq, ← hihl, State.ihl_congr h _ (State.pbAt_inject_of_ne _ _ _ _ (by omega))]

end

theorem State.shortAt_udpReplyFrame_checksum (hheader : 8 ≤ s.ihl) :
    shortAt (s.udpReplyFrame s.l4Base n) 24 = fold ((s.udpReplyFrame s.l4Base n).memWrite 24 2 0).ipSum := by
  have hbase : s.l4Base = 14 + s.ihl := rfl
  have hframe : ∀ k, k < s.l4Base + 6 → (s.udpReplyFrame s.l4Base n).pbAt k = (s.udpReplyHeader s.l4Base n).pbAt k :=
    fun k => State.pbAt_udpReplyFrame_of_lt (by omega)
  obtain ⟨h, hihl, heq⟩ := State.udpReplyHeader_eq (n := n) (s := s) (by omega)
  have hihl' : (h.memWrite 24 2 0).ihl = s.ihl :=
    (State.ihl_congr h _ (State.pbAt_memWrite_of_lt _ _ _ _ _ (by omega))).trans hihl
  have hsum : ((s.udpReplyFrame s.l4Base n).memWrite 24 2 0).ipSum = (h.memWrite 24 2 0).ipSum := by
    refine State.ipSum_congr _ _ fun k hk hk' => ?_
    rw [← h.pbAt_inject_zeroed 24 State.ipSum, State.pbAt_memWrite, State.pbAt_memWrite, hframe k (by omega), heq]
  rw [hsum, shortAt, hframe 24 (by omega), hframe 25 (by omega), heq]
  exact h.shortAt_inject 24 State.ipSum

theorem State.fold_ipSum_udpReplyFrame (hheader : 12 ≤ s.ihl) : fold (s.udpReplyFrame s.l4Base n).ipSum = 0 := by
  have hbase : s.l4Base = 14 + s.ihl := rfl
  have hihl := State.ihl_udpReplyHeader (n := n) (s := s) (by omega)
  obtain ⟨h, hihl', heq⟩ := State.udpReplyHeader_eq (n := n) (s := s) (by omega)
  rw [State.ipSum_congr (s.udpReplyHeader s.l4Base n) _ fun k _ _ =>
    State.pbAt_udpReplyFrame_of_lt (by omega) (by omega), heq]
  exact h.fold_ipSum_inject (by omega)

/-! #### The UDP checksum -/

theorem State.shortAt_udpReplyFrame_udpChecksum (hheader : 4 ≤ s.ihl) :
    shortAt (s.udpReplyFrame s.l4Base n) (s.l4Base + 6)
      = fold (((s.udpReplyFrame s.l4Base n).memWrite (s.l4Base + 6) 2 0).l4Sum 17) := by
  rw [State.udpReplyFrame_eq hheader, State.shortAt_inject,
    State.l4Sum_congr _ _ 17 ((s.udpReplyPayload s.l4Base n).pbAt_inject_zeroed (s.l4Base + 6) _)]

/-- The checksum field lies before the addresses behind a header of four bytes, and behind them from sixteen on. -/
theorem State.fold_l4Sum_udpReplyFrame (hheader : 4 ≤ s.ihl) (h8 : s.ihl ≠ 8) (h12 : s.ihl ≠ 12) (hn : n ≤ 1522) :
    fold ((s.udpReplyFrame s.l4Base n).l4Sum 17) = 0 := by
  have hbase : s.l4Base = 14 + s.ihl := rfl
  have hdvd := s.ihl_dvd
  have hbase' := State.l4Base_udpReplyPayload_eq (n := n) hheader
  have hlen := s.l4Len_udpReplyPayload s.l4Base n (Nat.le_add_right 14 s.ihl) hn
  have hfold := (s.udpReplyPayload s.l4Base n).fold_l4Sum_inject 17 6 (by decide) rfl (by omega) (by omega) (by omega)
    (by omega)
  rwa [hbase', ← State.udpReplyFrame_eq hheader] at hfold

end

section

variable (s : State) (m a n v : Nat)

theorem State.ipSum_transmit_memWrite : ((s.transmit m).memWrite a n v).ipSum = (s.memWrite a n v).ipSum := by rfl

theorem State.l4Sum_transmit_memWrite (proto : Nat) :
    ((s.transmit m).memWrite a n v).l4Sum proto = (s.memWrite a n v).l4Sum proto := by rfl

end

/-- Settles O48: the writes one after the other, each clause about bytes that no later write covers. -/
theorem udpReplyCarriesTheStagedPayload : Obligations.UdpReplyCarriesTheStagedPayload := by
  intro s hheader hinside
  have hbase : s.l4Base = 14 + s.ihl := rfl
  have hdvd := s.ihl_dvd
  have hn : s.psbLen.toNat ≤ 1522 := by omega
  have hexec := exec_buildUdpReply hinside (by rw [State.ihl_udpReplyPorts hheader]; omega)
  have hsent := (s.udpReplyFrame_pbOnly s.l4Base s.psbLen.toNat).sent (s.l4Base + 8 + s.psbLen.toNat)
  have houtside {k : Nat} := State.pbAt_udpReplyFrame_of_outside (n := s.psbLen.toNat) (k := k) hheader
  have hports {k : Nat} := State.shortAt_udpReplyFrame_of_ports (n := s.psbLen.toNat) (k := k) hheader
  obtain ⟨hdst, hsrc⟩ := macAt_of_exchanged (s := s) fun k _ => houtside (k := k) (by omega) (by simp; omega)
  obtain ⟨hsrcPort, hdstPort⟩ := s.shortAt_udpReplyPorts s.l4Base s.psbLen.toNat
  have hfirst := (hports (k := s.l4Base) (by omega) (by simp; omega)).trans hsrcPort
  have hsecond : s.ihl ≠ 8 → _ := fun h => (hports (k := s.l4Base + 2) (by omega) (by simp; omega)).trans hdstPort
  refine ⟨_, hexec, ?_⟩
  simp only [State.macAt_transmit, State.longAt_transmit, State.shortAt_transmit, State.pbAt_transmit,
    State.pbBytes_transmit, State.ipSum_transmit, State.l4Sum_transmit]
  refine ⟨hdst, hsrc, State.ipTotLen_udpReplyFrame hheader hn, fun h => ?_,
    fun k _ _ hk => houtside hk (by simp; omega), hfirst, hsecond, ?_, ?_, fun h => ?_, fun h => State.fold_ipSum_udpReplyFrame h, ?_,
    fun h8 h12 => State.fold_l4Sum_udpReplyFrame hheader h8 h12 hn, fun k h12 hk hdatagram => ?_, hsent⟩
  · obtain ⟨hsrcIp, hdstIp⟩ := longAt_of_exchanged (s := s) fun k _ _ => houtside (k := k) (by omega) (by simp; omega)
    have hsecond' := hsecond (by omega)
    rw [exchangedAt_of_outside s (by omega), exchangedAt_of_outside s (by omega)] at hfirst hsecond'
    exact ⟨hsrcIp, hdstIp, hfirst, hsecond'⟩
  · rw [hports (by omega) (by simp; omega)]
    exact s.shortAt_udpReplyPorts_length _ _ (by omega)
  · rw [State.pbBytes_congr (s.udpReplyPayload s.l4Base s.psbLen.toNat) _ _ _ fun k hk _ =>
      State.pbAt_udpReplyFrame hheader (.inr hk)]
    exact s.pbBytes_udpReplyPayload _ _
  · rw [State.ipSum_transmit_memWrite]
    exact State.shortAt_udpReplyFrame_checksum h
  · rw [State.l4Sum_transmit_memWrite]
    exact State.shortAt_udpReplyFrame_udpChecksum hheader
  · rw [houtside hdatagram (by simp; omega), exchangedAt_of_outside s (by omega)]

end Sys2Proof.Machine
